-- ==== Sys2Proof/Word.lean ====
section
/-! DEFINITION. The words the DA4's manual treats as bits: a byte of a frame or of content, a value of
the 32-bit time base (R209), and a 32-bit check (R52). Everything else the manual counts with is a `Nat`
or, where it is signed, an `Int`. -/

namespace Sys2Proof

/-- One byte of a frame or of content. -/
abbrev Byte := BitVec 8

/-- A value of the time base, which wraps (R209). -/
abbrev Tick := BitVec 32

/-- A CRC-32 of content, or the remainder it is computed from (R52). -/
abbrev Check := BitVec 32

end Sys2Proof
end

