-- ==== Sys2Proof/Syntax.lean ====
section
/-! DEFINITION. The commands of the DA4: one constructor of `Instr` per row of spec/opcode_table.json.

A request row carries the tag of its frame and the fields of its body in the order its rule lists them
(R198). A field is a `Nat` as the frame carries it: a value the rule refuses is still carried, so that the
rule can refuse it. `body := none` stands for a body whose length does not fit the request's fields
(R195, case 3). -/

namespace Sys2Proof

/-- A request taken from the request input buffer: the host's tag, and its fields when the body's length
fits them (R190, R195). -/
structure Taken (α : Type) where
  tag : Nat
  body : Option α
deriving DecidableEq, Repr

/-- The key of an edition (R2). -/
structure EditionReq where
  day : Nat
  index : Nat
deriving DecidableEq, Repr

/-- OPEN-EDITION's fields (R5). -/
structure OpenEditionReq where
  day : Nat
  index : Nat
  source : Nat
  grade : Nat
  profile : Nat
deriving DecidableEq, Repr

/-- An edition key and a page number (R20). -/
structure PageReq where
  day : Nat
  index : Nat
  page : Nat
deriving DecidableEq, Repr

/-- A plate as a request names it: edition key, page, and a plate number or 0xFF for LATEST (R19, R198). -/
structure PlateReq where
  day : Nat
  index : Nat
  page : Nat
  plate : Nat
deriving DecidableEq, Repr

/-- SUPPRESS's fields (R24). -/
structure SuppressReq where
  plate : PlateReq
  arm : Nat
deriving DecidableEq, Repr

/-- FILE-PHOTO's fields (R31). -/
structure FilePhotoReq where
  photo : Nat
  size : Nat
  check : Check
  photoDay : Nat
  holder : Nat
  fee : Nat
  share : Nat
  embargo : Option Nat
deriving DecidableEq, Repr

/-- SET-RIGHTS's fields (R35). -/
structure RightsReq where
  photo : Nat
  holder : Nat
  fee : Nat
  share : Nat
  embargo : Option Nat
deriving DecidableEq, Repr

/-- DEPOSIT's fields (R46). -/
structure DepositReq where
  day : Nat
  index : Nat
  page : Nat
  size : Nat
  check : Check
  width : Nat
  height : Nat
  photos : List Nat
deriving DecidableEq, Repr

/-- REDEPOSIT's fields (R48). -/
structure RedepositReq where
  plate : PlateReq
  size : Nat
  check : Check
  width : Nat
  height : Nat
  photos : Option (List Nat)
deriving DecidableEq, Repr

/-- CLOSE-EDITION's fields (R60). -/
structure CloseReq where
  day : Nat
  index : Nat
  expected : Nat
deriving DecidableEq, Repr

/-- UNIT-STATE's fields (R70). -/
structure UnitStateReq where
  position : Nat
  state : Nat
deriving DecidableEq, Repr

/-- A subject as a request carries it (R198): a plate, a photo, or a kind byte that is neither. -/
inductive SubjectReq where
  | plate (p : PlateReq)
  | photo (number : Nat)
  | neither
deriving DecidableEq, Repr

/-- FETCH's fields (R98). -/
structure FetchReq where
  subject : SubjectReq
  copy : Nat
deriving DecidableEq, Repr

/-- RESTORE's fields (R116). -/
structure RestoreReq where
  plate : PlateReq
  profile : Nat
  priority : Nat
deriving DecidableEq, Repr

/-- SET-PROFILE's fields (R111). -/
structure ProfileReq where
  profile : Nat
  pLo : Nat
  pHi : Nat
  sMin : Nat
  threshold : Nat
deriving DecidableEq, Repr

/-- TONE-TABLE's fields (R112). -/
structure ToneReq where
  profile : Nat
  entries : List Byte
deriving DecidableEq, Repr

/-- One item of PLACE-ORDER (R147): product, subject and restoration choice with its profile number. -/
structure ItemReq where
  product : Nat
  subject : SubjectReq
  choice : Nat
  profile : Nat
deriving DecidableEq, Repr

/-- PLACE-ORDER's fields (R147). -/
structure PlaceOrderReq where
  account : Nat
  items : List ItemReq
deriving DecidableEq, Repr

/-- COLLECT's fields (R160). -/
structure CollectReq where
  order : Nat
  item : Nat
deriving DecidableEq, Repr

/-- SET-TARIFF's fields (R168). -/
structure TariffReq where
  product : Nat
  base : Nat
  ageRate : Nat
  tileRate : Nat
  cap : Nat
deriving DecidableEq, Repr

/-- The fields of ACCOUNT-OPEN (R181) and of ACCOUNT-LIMIT (R183). -/
structure AccountTermsReq where
  account : Nat
  limit : Nat
  tier : Nat
deriving DecidableEq, Repr

/-- ACCOUNT-CREDIT's fields (R182). -/
structure AccountCreditReq where
  account : Nat
  adjustment : Int
deriving DecidableEq, Repr

/-- ACCOUNT-STATE's fields (R184). -/
structure AccountStateReq where
  account : Nat
  state : Nat
deriving DecidableEq, Repr

/-- HOLDER-SET's fields (R187). -/
structure HolderSetReq where
  holder : Nat
  label : List Byte
deriving DecidableEq, Repr

/-- HOLDER-PAYOUT's fields (R188). -/
structure PayoutReq where
  holder : Nat
  amount : Nat
deriving DecidableEq, Repr

/-- SET-FILTER's fields (R204). -/
structure FilterReq where
  edition : Nat
  medium : Nat
  fetch : Nat
  restore : Nat
  order : Nat
deriving DecidableEq, Repr

/-- The unit that answers, and the number of the operation it answers (R72; the number is the model's own, log 30). -/
structure UnitOp where
  unit : Nat
  op : Nat
deriving DecidableEq, Repr

/-- SET-DATE's fields (R213). -/
structure DateReq where
  day : Nat
  seconds : Nat
deriving DecidableEq, Repr

/-- The commands. Request rows first, in the table's order; then the rows for frames, deliveries, expiries,
time, arbiters, units, the Repair Engine, the supply and the resets. -/
inductive Instr where
  | openEdition (r : Taken OpenEditionReq)
  | dropEdition (r : Taken EditionReq)
  | editionInfo (r : Taken EditionReq)
  | pageInfo (r : Taken PageReq)
  | plateInfo (r : Taken PlateReq)
  | suppressArm (r : Taken PlateReq)
  | suppress (r : Taken SuppressReq)
  | filePhoto (r : Taken FilePhotoReq)
  | setRights (r : Taken RightsReq)
  | barPhoto (r : Taken Nat)
  | unbarPhoto (r : Taken Nat)
  | removePhoto (r : Taken Nat)
  | photoInfo (r : Taken Nat)
  | deposit (r : Taken DepositReq)
  | redeposit (r : Taken RedepositReq)
  | depositEnd (r : Taken Nat)
  | withdrawPlate (r : Taken PlateReq)
  | closeEdition (r : Taken CloseReq)
  | unitList (r : Taken Unit)
  | unitState (r : Taken UnitStateReq)
  | holdClass (r : Taken Nat)
  | releaseClass (r : Taken Nat)
  | setCommitLimit (r : Taken Nat)
  | queueList (r : Taken Unit)
  | fetch (r : Taken FetchReq)
  | ticketList (r : Taken Unit)
  | restore (r : Taken RestoreReq)
  | jobInfo (r : Taken (Option Nat))
  | cancelJob (r : Taken Nat)
  | setProfile (r : Taken ProfileReq)
  | toneTable (r : Taken ToneReq)
  | placeOrder (r : Taken PlaceOrderReq)
  | orderInfo (r : Taken (Option Nat))
  | collect (r : Taken CollectReq)
  | cancelOrder (r : Taken Nat)
  | setTariff (r : Taken TariffReq)
  | accountOpen (r : Taken AccountTermsReq)
  | accountCredit (r : Taken AccountCreditReq)
  | accountLimit (r : Taken AccountTermsReq)
  | accountState (r : Taken AccountStateReq)
  | accountInfo (r : Taken Nat)
  | holderSet (r : Taken HolderSetReq)
  | holderPayout (r : Taken PayoutReq)
  | revenueInfo (r : Taken (Option Nat))
  | status (r : Taken Unit)
  | takeNotices (r : Taken Nat)
  | setFilter (r : Taken FilterReq)
  | reset (r : Taken Unit)
  | setDate (r : Taken DateReq)
  /-- a taken request whose code names no request (R195, case 2) -/
  | unknownRequest (tag code : Nat)
  /-- a whole REQUEST frame arrives (R193, R194) -/
  | requestFrame (tag code : Nat) (body : List Byte)
  /-- a whole DATA-IN frame arrives (R193, R50); its body is a 4-byte offset and the data -/
  | dataIn (tag code : Nat) (body : List Byte)
  /-- other bytes arrive: a damaged frame, or one of a kind the part does not accept (R192, R193) -/
  | frameDiscard (bytes : List Byte)
  | ticketDeliveryEnd
  | itemDeliveryEnd
  | stallTimerExpiry (slot : Nat)
  | ticketCollectExpiry (ticket : Nat)
  | itemCollectExpiry (order item : Nat)
  | closeTimerExpiry (day index : Nat)
  | armTimerExpiry
  | operationLimitExpiry (unit : Nat)
  | writeHoldExpiry
  | timeBaseTick
  | timeWrap
  | dayRoll
  | commitGrant (unit : Nat)
  | readGrant (unit : Nat)
  /-- a unit's OK to a WRITE-VERIFY, with the start extent (R72) -/
  | writeVerifyOk (unit : UnitOp) (start : Nat)
  | writeVerifyError (unit : UnitOp)
  /-- the unit's answer to a read: the content's bytes, or none for ERROR (R72, R88) -/
  | readAnswer (unit : UnitOp) (answer : Option (List Byte))
  | tileWritten
  | supplyLow
  | supplyNormal
  | brownoutReset
  | powerReset
  | supplyRecovered
  | lineAssert
  | lineRelease
  /-- LINK takes effect, and then its recovery is done (R207, R220; log 8) -/
  | linkReset
  | unitQueryAnswer (unit capacity writeCount : Nat)
  | queryLimitExpiry (unit : Nat)
deriving DecidableEq, Repr

end Sys2Proof
end

