-- ==== Sys2Proof/WellFormed.lean ====
section
/-! DEFINITION. Which commands a sender can form: every field within the width the frame gives it (R198),
tags and codes within a frame's fields (R190), unit positions on the chain (R67), and answers within what a
unit reports (R67, R72). A value inside its width that a rule refuses is well formed: the rule refuses it. -/

namespace Sys2Proof

/-- `n` fits an unsigned field of `w` bytes. -/
def fits (w n : Nat) : Bool := decide (n < 256 ^ w)

/-- `i` fits the signed 4-byte field of R198. -/
def fitsSigned (i : Int) : Bool := decide (-2147483648 ≤ i) && decide (i ≤ 2147483647)

/-- A list's count fits its 2-byte field and every member passes `p`. -/
def fitsList {α : Type} (p : α → Bool) (l : List α) : Bool := fits 2 l.length && l.all p

/-- An optional field is absent or passes `p`. -/
def fitsOption {α : Type} (p : α → Bool) : Option α → Bool
  | none => true
  | some a => p a

def EditionReq.wf (r : EditionReq) : Bool := fits 2 r.day && fits 1 r.index

def OpenEditionReq.wf (r : OpenEditionReq) : Bool :=
  fits 2 r.day && fits 1 r.index && fits 1 r.source && fits 1 r.grade && fits 1 r.profile

def PageReq.wf (r : PageReq) : Bool := fits 2 r.day && fits 1 r.index && fits 1 r.page

def PlateReq.wf (r : PlateReq) : Bool :=
  fits 2 r.day && fits 1 r.index && fits 1 r.page && fits 1 r.plate

def SuppressReq.wf (r : SuppressReq) : Bool := r.plate.wf && fits 2 r.arm

def FilePhotoReq.wf (r : FilePhotoReq) : Bool :=
  fits 2 r.photo && fits 4 r.size && fits 2 r.photoDay && fits 1 r.holder && fits 4 r.fee && fits 1 r.share
    && fitsOption (fits 2) r.embargo

def RightsReq.wf (r : RightsReq) : Bool :=
  fits 2 r.photo && fits 1 r.holder && fits 4 r.fee && fits 1 r.share && fitsOption (fits 2) r.embargo

def DepositReq.wf (r : DepositReq) : Bool :=
  fits 2 r.day && fits 1 r.index && fits 1 r.page && fits 4 r.size && fits 1 r.width && fits 1 r.height
    && fitsList (fits 2) r.photos

def RedepositReq.wf (r : RedepositReq) : Bool :=
  r.plate.wf && fits 4 r.size && fits 1 r.width && fits 1 r.height
    && fitsOption (fitsList (fits 2)) r.photos

def CloseReq.wf (r : CloseReq) : Bool := fits 2 r.day && fits 1 r.index && fits 1 r.expected

def UnitStateReq.wf (r : UnitStateReq) : Bool := fits 1 r.position && fits 1 r.state

def SubjectReq.wf : SubjectReq → Bool
  | .plate p => p.wf
  | .photo n => fits 2 n
  | .neither => true

def FetchReq.wf (r : FetchReq) : Bool := r.subject.wf && fits 1 r.copy

def RestoreReq.wf (r : RestoreReq) : Bool := r.plate.wf && fits 1 r.profile && fits 1 r.priority

def ProfileReq.wf (r : ProfileReq) : Bool :=
  fits 1 r.profile && fits 1 r.pLo && fits 1 r.pHi && fits 1 r.sMin && fits 1 r.threshold

def ToneReq.wf (r : ToneReq) : Bool := fits 1 r.profile && fits 2 r.entries.length

def ItemReq.wf (r : ItemReq) : Bool :=
  fits 1 r.product && r.subject.wf && fits 1 r.choice && fits 1 r.profile

def PlaceOrderReq.wf (r : PlaceOrderReq) : Bool := fits 2 r.account && fitsList ItemReq.wf r.items

def CollectReq.wf (r : CollectReq) : Bool := fits 2 r.order && fits 1 r.item

def TariffReq.wf (r : TariffReq) : Bool :=
  fits 1 r.product && fits 4 r.base && fits 1 r.ageRate && fits 2 r.tileRate && fits 4 r.cap

def AccountTermsReq.wf (r : AccountTermsReq) : Bool := fits 2 r.account && fits 4 r.limit && fits 2 r.tier

def AccountCreditReq.wf (r : AccountCreditReq) : Bool := fits 2 r.account && fitsSigned r.adjustment

def AccountStateReq.wf (r : AccountStateReq) : Bool := fits 2 r.account && fits 1 r.state

def HolderSetReq.wf (r : HolderSetReq) : Bool := fits 1 r.holder && decide (r.label.length = 16)

def PayoutReq.wf (r : PayoutReq) : Bool := fits 1 r.holder && fits 4 r.amount

def FilterReq.wf (r : FilterReq) : Bool :=
  fits 1 r.edition && fits 1 r.medium && fits 1 r.fetch && fits 1 r.restore && fits 1 r.order

def DateReq.wf (r : DateReq) : Bool := fits 2 r.day && fits 4 r.seconds

/-- The tag fits and so do the body's fields, where the body has them. -/
def Taken.wf {α : Type} (p : α → Bool) (r : Taken α) : Bool := fits 1 r.tag && fitsOption p r.body

/-- A medium unit's position on the chain (R67). -/
def position (u : Nat) : Bool := decide (u < 4)

/-- The command can be formed by its sender. -/
def Instr.wf : Instr → Bool
  | .openEdition r => r.wf OpenEditionReq.wf
  | .dropEdition r => r.wf EditionReq.wf
  | .editionInfo r => r.wf EditionReq.wf
  | .pageInfo r => r.wf PageReq.wf
  | .plateInfo r => r.wf PlateReq.wf
  | .suppressArm r => r.wf PlateReq.wf
  | .suppress r => r.wf SuppressReq.wf
  | .filePhoto r => r.wf FilePhotoReq.wf
  | .setRights r => r.wf RightsReq.wf
  | .barPhoto r => r.wf (fits 2)
  | .unbarPhoto r => r.wf (fits 2)
  | .removePhoto r => r.wf (fits 2)
  | .photoInfo r => r.wf (fits 2)
  | .deposit r => r.wf DepositReq.wf
  | .redeposit r => r.wf RedepositReq.wf
  | .depositEnd r => r.wf (fits 1)
  | .withdrawPlate r => r.wf PlateReq.wf
  | .closeEdition r => r.wf CloseReq.wf
  | .unitList r => r.wf (fun _ => true)
  | .unitState r => r.wf UnitStateReq.wf
  | .holdClass r => r.wf (fits 1)
  | .releaseClass r => r.wf (fits 1)
  | .setCommitLimit r => r.wf (fits 1)
  | .queueList r => r.wf (fun _ => true)
  | .fetch r => r.wf FetchReq.wf
  | .ticketList r => r.wf (fun _ => true)
  | .restore r => r.wf RestoreReq.wf
  | .jobInfo r => r.wf (fitsOption (fits 2))
  | .cancelJob r => r.wf (fits 2)
  | .setProfile r => r.wf ProfileReq.wf
  | .toneTable r => r.wf ToneReq.wf
  | .placeOrder r => r.wf PlaceOrderReq.wf
  | .orderInfo r => r.wf (fitsOption (fits 2))
  | .collect r => r.wf CollectReq.wf
  | .cancelOrder r => r.wf (fits 2)
  | .setTariff r => r.wf TariffReq.wf
  | .accountOpen r => r.wf AccountTermsReq.wf
  | .accountCredit r => r.wf AccountCreditReq.wf
  | .accountLimit r => r.wf AccountTermsReq.wf
  | .accountState r => r.wf AccountStateReq.wf
  | .accountInfo r => r.wf (fits 2)
  | .holderSet r => r.wf HolderSetReq.wf
  | .holderPayout r => r.wf PayoutReq.wf
  | .revenueInfo r => r.wf (fitsOption (fits 1))
  | .status r => r.wf (fun _ => true)
  | .takeNotices r => r.wf (fits 1)
  | .setFilter r => r.wf FilterReq.wf
  | .reset r => r.wf (fun _ => true)
  | .setDate r => r.wf DateReq.wf
  | .unknownRequest tag code => fits 1 tag && fits 2 code
  | .requestFrame tag code body => fits 1 tag && fits 2 code && decide (body.length ≤ 4104)
  | .dataIn tag code body => fits 1 tag && fits 2 code && decide (body.length ≤ 4104)
  | .frameDiscard _ => true
  | .ticketDeliveryEnd => true
  | .itemDeliveryEnd => true
  | .stallTimerExpiry slot => decide (slot < 4)
  | .ticketCollectExpiry ticket => decide (1 ≤ ticket) && fits 1 ticket
  | .itemCollectExpiry order item =>
    decide (1 ≤ order) && fits 1 order && decide (1 ≤ item) && decide (item ≤ 8)
  | .closeTimerExpiry day index => fits 2 day && decide (1 ≤ index) && decide (index ≤ 6)
  | .armTimerExpiry => true
  | .operationLimitExpiry unit => position unit
  | .writeHoldExpiry => true
  | .timeBaseTick => true
  | .timeWrap => true
  | .dayRoll => true
  | .commitGrant unit => position unit
  | .readGrant unit => position unit
  | .writeVerifyOk unit start => position unit.unit && fits 4 start
  | .writeVerifyError unit => position unit.unit
  | .readAnswer unit _ => position unit.unit
  | .tileWritten => true
  | .supplyLow => true
  | .supplyNormal => true
  | .brownoutReset => true
  | .powerReset => true
  | .supplyRecovered => true
  | .lineAssert => true
  | .lineRelease => true
  | .linkReset => true
  | .unitQueryAnswer unit capacity writeCount =>
    position unit && decide (1 ≤ capacity) && fits 4 capacity && fits 4 writeCount
  | .queryLimitExpiry unit => position unit

end Sys2Proof
end

