-- ==== Sys2Proof/Decode.lean ====
section
/-! DEFINITION. How a REQUEST frame's code and body spell a command (R195, R197, R198), the writing of the
same bodies, and the byte-order helpers both use. `decodeTableWord` is here too: the opcode table gives no
row any bits, so no word spells a command. -/

namespace Sys2Proof

/-! ### Bytes and numbers -/

/-- `n` in `w` bytes, most significant byte first (R190). -/
def beBytes : Nat → Nat → List Byte
  | 0, _ => []
  | w + 1, n => BitVec.ofNat 8 (n / 256 ^ w) :: beBytes w n

/-- The number bytes spell, most significant byte first (R190). -/
def beNat (b : List Byte) : Nat := b.foldl (fun n x => n * 256 + x.toNat) 0

/-- Two's complement of a signed 4-byte field (R198). -/
def signedToNat (i : Int) : Nat := if i < 0 then (i + 4294967296).toNat else i.toNat

/-- The signed value of a 4-byte field (R198). -/
def natToSigned (n : Nat) : Int := if n < 2147483648 then (n : Int) else (n : Int) - 4294967296

/-! ### Reading a body field by field -/

/-- What reading one field gives: its value and the bytes that follow it. -/
abbrev Reader (α : Type) := List Byte → Option (α × List Byte)

/-- An unsigned field of `w` bytes. -/
def readNat (w : Nat) : Reader Nat := fun b =>
  if w ≤ b.length then some (beNat (b.take w), b.drop w) else none

/-- A 32-bit check (R198). -/
def readCheck : Reader Check := fun b => do
  let (n, b) ← readNat 4 b
  return (BitVec.ofNat 32 n, b)

/-- A signed field of 4 bytes. -/
def readSigned : Reader Int := fun b => do
  let (n, b) ← readNat 4 b
  return (natToSigned n, b)

/-- A field given as "or none": a presence byte, then the field when present (R198). A presence byte other
than 0 or 1 fits no body. (DESIGN CHOICE, log 16.) -/
def readOption {α : Type} (r : Reader α) : Reader (Option α) := fun b => do
  let (p, b) ← readNat 1 b
  if p = 0 then return (none, b)
  else if p = 1 then
    let (a, b) ← r b
    return (some a, b)
  else none

/-- `n` members one after another. -/
def readMany {α : Type} (r : Reader α) : Nat → Reader (List α)
  | 0, b => some ([], b)
  | n + 1, b => do
    let (a, b) ← r b
    let (l, b) ← readMany r n b
    return (a :: l, b)

/-- A list: its count in 2 bytes, then its members (R198). -/
def readList {α : Type} (r : Reader α) : Reader (List α) := fun b => do
  let (n, b) ← readNat 2 b
  readMany r n b

/-- A body fits when its fields take all of it (R195, case 3). -/
def whole {α : Type} (r : Reader α) (b : List Byte) : Option α :=
  match r b with
  | some (a, []) => some a
  | _ => none

def readEdition : Reader EditionReq := fun b => do
  let (day, b) ← readNat 2 b
  let (index, b) ← readNat 1 b
  return (⟨day, index⟩, b)

def readOpenEdition : Reader OpenEditionReq := fun b => do
  let (day, b) ← readNat 2 b
  let (index, b) ← readNat 1 b
  let (source, b) ← readNat 1 b
  let (grade, b) ← readNat 1 b
  let (profile, b) ← readNat 1 b
  return (⟨day, index, source, grade, profile⟩, b)

def readPage : Reader PageReq := fun b => do
  let (day, b) ← readNat 2 b
  let (index, b) ← readNat 1 b
  let (page, b) ← readNat 1 b
  return (⟨day, index, page⟩, b)

def readPlate : Reader PlateReq := fun b => do
  let (day, b) ← readNat 2 b
  let (index, b) ← readNat 1 b
  let (page, b) ← readNat 1 b
  let (plate, b) ← readNat 1 b
  return (⟨day, index, page, plate⟩, b)

/-- SUPPRESS's plate and arm number; R198 names no width for an arm number, and that it has 2 bytes is the model's choice (log
14). -/
def readSuppress : Reader SuppressReq := fun b => do
  let (plate, b) ← readPlate b
  let (arm, b) ← readNat 2 b
  return (⟨plate, arm⟩, b)

def readFilePhoto : Reader FilePhotoReq := fun b => do
  let (photo, b) ← readNat 2 b
  let (size, b) ← readNat 4 b
  let (check, b) ← readCheck b
  let (photoDay, b) ← readNat 2 b
  let (holder, b) ← readNat 1 b
  let (fee, b) ← readNat 4 b
  let (share, b) ← readNat 1 b
  let (embargo, b) ← readOption (readNat 2) b
  return (⟨photo, size, check, photoDay, holder, fee, share, embargo⟩, b)

def readRights : Reader RightsReq := fun b => do
  let (photo, b) ← readNat 2 b
  let (holder, b) ← readNat 1 b
  let (fee, b) ← readNat 4 b
  let (share, b) ← readNat 1 b
  let (embargo, b) ← readOption (readNat 2) b
  return (⟨photo, holder, fee, share, embargo⟩, b)

def readDeposit : Reader DepositReq := fun b => do
  let (day, b) ← readNat 2 b
  let (index, b) ← readNat 1 b
  let (page, b) ← readNat 1 b
  let (size, b) ← readNat 4 b
  let (check, b) ← readCheck b
  let (width, b) ← readNat 1 b
  let (height, b) ← readNat 1 b
  let (photos, b) ← readList (readNat 2) b
  return (⟨day, index, page, size, check, width, height, photos⟩, b)

def readRedeposit : Reader RedepositReq := fun b => do
  let (plate, b) ← readPlate b
  let (size, b) ← readNat 4 b
  let (check, b) ← readCheck b
  let (width, b) ← readNat 1 b
  let (height, b) ← readNat 1 b
  let (photos, b) ← readOption (readList (readNat 2)) b
  return (⟨plate, size, check, width, height, photos⟩, b)

def readClose : Reader CloseReq := fun b => do
  let (day, b) ← readNat 2 b
  let (index, b) ← readNat 1 b
  let (expected, b) ← readNat 1 b
  return (⟨day, index, expected⟩, b)

def readUnitState : Reader UnitStateReq := fun b => do
  let (position, b) ← readNat 1 b
  let (state, b) ← readNat 1 b
  return (⟨position, state⟩, b)

/-- A subject: a kind byte, then 5 bytes (R198). R198 gives 3 bytes of 0 after a photo's number and no outcome for others: that
they are not looked at is the model's choice (log 36). -/
def readSubject : Reader SubjectReq := fun b => do
  let (kind, b) ← readNat 1 b
  if kind = 1 then
    let (p, b) ← readPlate b
    return (.plate p, b)
  else if kind = 2 then
    let (n, b) ← readNat 2 b
    let (_, b) ← readNat 3 b
    return (.photo n, b)
  else
    let (_, b) ← readNat 5 b
    return (.neither, b)

def readFetch : Reader FetchReq := fun b => do
  let (subject, b) ← readSubject b
  let (copy, b) ← readNat 1 b
  return (⟨subject, copy⟩, b)

/-- RESTORE names its plate by key, page and number, 5 bytes. (DEDUCED, log 15.) -/
def readRestore : Reader RestoreReq := fun b => do
  let (plate, b) ← readPlate b
  let (profile, b) ← readNat 1 b
  let (priority, b) ← readNat 1 b
  return (⟨plate, profile, priority⟩, b)

def readProfile : Reader ProfileReq := fun b => do
  let (profile, b) ← readNat 1 b
  let (pLo, b) ← readNat 1 b
  let (pHi, b) ← readNat 1 b
  let (sMin, b) ← readNat 1 b
  let (threshold, b) ← readNat 1 b
  return (⟨profile, pLo, pHi, sMin, threshold⟩, b)

def readByte : Reader Byte
  | [] => none
  | x :: b => some (x, b)

/-- TONE-TABLE's fields (R112). Its entries are a list with a count, since R112 refuses fewer or more than 256 after it has
looked at the profile. (DEDUCED, log 35.) -/
def readTone : Reader ToneReq := fun b => do
  let (profile, b) ← readNat 1 b
  let (entries, b) ← readList readByte b
  return (⟨profile, entries⟩, b)

/-- An item: product, subject, choice and profile number. R198 gives the number as 0 for NONE and AUTO and no outcome for
another: that it is not looked at then is the model's choice (log 36). -/
def readItem : Reader ItemReq := fun b => do
  let (product, b) ← readNat 1 b
  let (subject, b) ← readSubject b
  let (choice, b) ← readNat 1 b
  let (profile, b) ← readNat 1 b
  return (⟨product, subject, choice, profile⟩, b)

def readPlaceOrder : Reader PlaceOrderReq := fun b => do
  let (account, b) ← readNat 2 b
  let (items, b) ← readList readItem b
  return (⟨account, items⟩, b)

def readCollect : Reader CollectReq := fun b => do
  let (order, b) ← readNat 2 b
  let (item, b) ← readNat 1 b
  return (⟨order, item⟩, b)

def readTariff : Reader TariffReq := fun b => do
  let (product, b) ← readNat 1 b
  let (base, b) ← readNat 4 b
  let (ageRate, b) ← readNat 1 b
  let (tileRate, b) ← readNat 2 b
  let (cap, b) ← readNat 4 b
  return (⟨product, base, ageRate, tileRate, cap⟩, b)

def readAccountTerms : Reader AccountTermsReq := fun b => do
  let (account, b) ← readNat 2 b
  let (limit, b) ← readNat 4 b
  let (tier, b) ← readNat 2 b
  return (⟨account, limit, tier⟩, b)

def readAccountCredit : Reader AccountCreditReq := fun b => do
  let (account, b) ← readNat 2 b
  let (adjustment, b) ← readSigned b
  return (⟨account, adjustment⟩, b)

def readAccountState : Reader AccountStateReq := fun b => do
  let (account, b) ← readNat 2 b
  let (state, b) ← readNat 1 b
  return (⟨account, state⟩, b)

def readHolderSet : Reader HolderSetReq := fun b => do
  let (holder, b) ← readNat 1 b
  let (label, b) ← readMany readByte 16 b
  return (⟨holder, label⟩, b)

def readPayout : Reader PayoutReq := fun b => do
  let (holder, b) ← readNat 1 b
  let (amount, b) ← readNat 4 b
  return (⟨holder, amount⟩, b)

def readFilter : Reader FilterReq := fun b => do
  let (edition, b) ← readNat 1 b
  let (medium, b) ← readNat 1 b
  let (fetch, b) ← readNat 1 b
  let (restore, b) ← readNat 1 b
  let (order, b) ← readNat 1 b
  return (⟨edition, medium, fetch, restore, order⟩, b)

def readDate : Reader DateReq := fun b => do
  let (day, b) ← readNat 2 b
  let (seconds, b) ← readNat 4 b
  return (⟨day, seconds⟩, b)

/-- A request with no fields: its body is empty (R206, R207). -/
def readNothing : Reader Unit := fun b => some ((), b)

/-- The command a REQUEST frame with this tag, code and body is taken as (R195, R197). -/
def requestOf (tag code : Nat) (body : List Byte) : Instr :=
  match code with
  | 0x0101 => .openEdition ⟨tag, whole readOpenEdition body⟩
  | 0x0102 => .dropEdition ⟨tag, whole readEdition body⟩
  | 0x0103 => .editionInfo ⟨tag, whole readEdition body⟩
  | 0x0104 => .pageInfo ⟨tag, whole readPage body⟩
  | 0x0105 => .plateInfo ⟨tag, whole readPlate body⟩
  | 0x0106 => .suppressArm ⟨tag, whole readPlate body⟩
  | 0x0107 => .suppress ⟨tag, whole readSuppress body⟩
  | 0x0201 => .filePhoto ⟨tag, whole readFilePhoto body⟩
  | 0x0202 => .setRights ⟨tag, whole readRights body⟩
  | 0x0203 => .barPhoto ⟨tag, whole (readNat 2) body⟩
  | 0x0204 => .unbarPhoto ⟨tag, whole (readNat 2) body⟩
  | 0x0205 => .removePhoto ⟨tag, whole (readNat 2) body⟩
  | 0x0206 => .photoInfo ⟨tag, whole (readNat 2) body⟩
  | 0x0301 => .deposit ⟨tag, whole readDeposit body⟩
  | 0x0302 => .redeposit ⟨tag, whole readRedeposit body⟩
  | 0x0303 => .depositEnd ⟨tag, whole (readNat 1) body⟩
  | 0x0304 => .withdrawPlate ⟨tag, whole readPlate body⟩
  | 0x0305 => .closeEdition ⟨tag, whole readClose body⟩
  | 0x0401 => .unitList ⟨tag, whole readNothing body⟩
  | 0x0402 => .unitState ⟨tag, whole readUnitState body⟩
  | 0x0403 => .holdClass ⟨tag, whole (readNat 1) body⟩
  | 0x0404 => .releaseClass ⟨tag, whole (readNat 1) body⟩
  | 0x0405 => .setCommitLimit ⟨tag, whole (readNat 1) body⟩
  | 0x0406 => .queueList ⟨tag, whole readNothing body⟩
  | 0x0501 => .fetch ⟨tag, whole readFetch body⟩
  | 0x0502 => .ticketList ⟨tag, whole readNothing body⟩
  | 0x0601 => .restore ⟨tag, whole readRestore body⟩
  | 0x0602 => .jobInfo ⟨tag, whole (readOption (readNat 2)) body⟩
  | 0x0603 => .cancelJob ⟨tag, whole (readNat 2) body⟩
  | 0x0604 => .setProfile ⟨tag, whole readProfile body⟩
  | 0x0605 => .toneTable ⟨tag, whole readTone body⟩
  | 0x0701 => .placeOrder ⟨tag, whole readPlaceOrder body⟩
  | 0x0702 => .orderInfo ⟨tag, whole (readOption (readNat 2)) body⟩
  | 0x0703 => .collect ⟨tag, whole readCollect body⟩
  | 0x0704 => .cancelOrder ⟨tag, whole (readNat 2) body⟩
  | 0x0801 => .setTariff ⟨tag, whole readTariff body⟩
  | 0x0802 => .accountOpen ⟨tag, whole readAccountTerms body⟩
  | 0x0803 => .accountCredit ⟨tag, whole readAccountCredit body⟩
  | 0x0804 => .accountLimit ⟨tag, whole readAccountTerms body⟩
  | 0x0805 => .accountState ⟨tag, whole readAccountState body⟩
  | 0x0806 => .accountInfo ⟨tag, whole (readNat 2) body⟩
  | 0x0807 => .holderSet ⟨tag, whole readHolderSet body⟩
  | 0x0808 => .holderPayout ⟨tag, whole readPayout body⟩
  | 0x0809 => .revenueInfo ⟨tag, whole (readOption (readNat 1)) body⟩
  | 0x0901 => .status ⟨tag, whole readNothing body⟩
  | 0x0902 => .takeNotices ⟨tag, whole (readNat 1) body⟩
  | 0x0903 => .setFilter ⟨tag, whole readFilter body⟩
  | 0x0904 => .reset ⟨tag, whole readNothing body⟩
  | 0x0A01 => .setDate ⟨tag, whole readDate body⟩
  | _ => .unknownRequest tag code

/-! ### Writing a body -/

/-- An optional field (R198). -/
def writeOption {α : Type} (w : α → List Byte) : Option α → List Byte
  | none => beBytes 1 0
  | some a => beBytes 1 1 ++ w a

/-- The members of a list one after another. -/
def writeMany {α : Type} (w : α → List Byte) : List α → List Byte
  | [] => []
  | a :: l => w a ++ writeMany w l

/-- A list: its count, then its members (R198). -/
def writeList {α : Type} (w : α → List Byte) (l : List α) : List Byte :=
  beBytes 2 l.length ++ writeMany w l

def EditionReq.bytes (r : EditionReq) : List Byte := beBytes 2 r.day ++ beBytes 1 r.index

def OpenEditionReq.bytes (r : OpenEditionReq) : List Byte :=
  beBytes 2 r.day ++ (beBytes 1 r.index ++ (beBytes 1 r.source ++ (beBytes 1 r.grade ++ beBytes 1 r.profile)))

def PageReq.bytes (r : PageReq) : List Byte := beBytes 2 r.day ++ (beBytes 1 r.index ++ beBytes 1 r.page)

def PlateReq.bytes (r : PlateReq) : List Byte :=
  beBytes 2 r.day ++ (beBytes 1 r.index ++ (beBytes 1 r.page ++ beBytes 1 r.plate))

def SuppressReq.bytes (r : SuppressReq) : List Byte := r.plate.bytes ++ beBytes 2 r.arm

def FilePhotoReq.bytes (r : FilePhotoReq) : List Byte :=
  beBytes 2 r.photo ++ (beBytes 4 r.size ++ (beBytes 4 r.check.toNat ++ (beBytes 2 r.photoDay
    ++ (beBytes 1 r.holder ++ (beBytes 4 r.fee ++ (beBytes 1 r.share ++ writeOption (beBytes 2) r.embargo))))))

def RightsReq.bytes (r : RightsReq) : List Byte :=
  beBytes 2 r.photo ++ (beBytes 1 r.holder ++ (beBytes 4 r.fee ++ (beBytes 1 r.share
    ++ writeOption (beBytes 2) r.embargo)))

def DepositReq.bytes (r : DepositReq) : List Byte :=
  beBytes 2 r.day ++ (beBytes 1 r.index ++ (beBytes 1 r.page ++ (beBytes 4 r.size ++ (beBytes 4 r.check.toNat
    ++ (beBytes 1 r.width ++ (beBytes 1 r.height ++ writeList (beBytes 2) r.photos))))))

def RedepositReq.bytes (r : RedepositReq) : List Byte :=
  r.plate.bytes ++ (beBytes 4 r.size ++ (beBytes 4 r.check.toNat ++ (beBytes 1 r.width ++ (beBytes 1 r.height
    ++ writeOption (writeList (beBytes 2)) r.photos))))

def CloseReq.bytes (r : CloseReq) : List Byte :=
  beBytes 2 r.day ++ (beBytes 1 r.index ++ beBytes 1 r.expected)

def UnitStateReq.bytes (r : UnitStateReq) : List Byte := beBytes 1 r.position ++ beBytes 1 r.state

def SubjectReq.bytes : SubjectReq → List Byte
  | .plate p => beBytes 1 1 ++ p.bytes
  | .photo n => beBytes 1 2 ++ (beBytes 2 n ++ beBytes 3 0)
  | .neither => beBytes 1 0 ++ beBytes 5 0

def FetchReq.bytes (r : FetchReq) : List Byte := r.subject.bytes ++ beBytes 1 r.copy

def RestoreReq.bytes (r : RestoreReq) : List Byte :=
  r.plate.bytes ++ (beBytes 1 r.profile ++ beBytes 1 r.priority)

def ProfileReq.bytes (r : ProfileReq) : List Byte :=
  beBytes 1 r.profile ++ (beBytes 1 r.pLo ++ (beBytes 1 r.pHi ++ (beBytes 1 r.sMin ++ beBytes 1 r.threshold)))

def ToneReq.bytes (r : ToneReq) : List Byte := beBytes 1 r.profile ++ writeList (fun x => [x]) r.entries

def ItemReq.bytes (r : ItemReq) : List Byte :=
  beBytes 1 r.product ++ (r.subject.bytes ++ (beBytes 1 r.choice ++ beBytes 1 r.profile))

def PlaceOrderReq.bytes (r : PlaceOrderReq) : List Byte :=
  beBytes 2 r.account ++ writeList ItemReq.bytes r.items

def CollectReq.bytes (r : CollectReq) : List Byte := beBytes 2 r.order ++ beBytes 1 r.item

def TariffReq.bytes (r : TariffReq) : List Byte :=
  beBytes 1 r.product ++ (beBytes 4 r.base ++ (beBytes 1 r.ageRate ++ (beBytes 2 r.tileRate ++ beBytes 4 r.cap)))

def AccountTermsReq.bytes (r : AccountTermsReq) : List Byte :=
  beBytes 2 r.account ++ (beBytes 4 r.limit ++ beBytes 2 r.tier)

def AccountCreditReq.bytes (r : AccountCreditReq) : List Byte :=
  beBytes 2 r.account ++ beBytes 4 (signedToNat r.adjustment)

def AccountStateReq.bytes (r : AccountStateReq) : List Byte := beBytes 2 r.account ++ beBytes 1 r.state

def HolderSetReq.bytes (r : HolderSetReq) : List Byte := beBytes 1 r.holder ++ writeMany (fun x => [x]) r.label

def PayoutReq.bytes (r : PayoutReq) : List Byte := beBytes 1 r.holder ++ beBytes 4 r.amount

def FilterReq.bytes (r : FilterReq) : List Byte :=
  beBytes 1 r.edition ++ (beBytes 1 r.medium ++ (beBytes 1 r.fetch ++ (beBytes 1 r.restore ++ beBytes 1 r.order)))

def DateReq.bytes (r : DateReq) : List Byte := beBytes 2 r.day ++ beBytes 4 r.seconds

/-- Tag, code and body of the frame that spells a request whose body fits; none for the other commands, and
for a body that does not fit (many bodies do not). -/
def requestFrameOf : Instr → Option (Nat × Nat × List Byte)
  | .openEdition r => r.body.map fun f => (r.tag, 0x0101, f.bytes)
  | .dropEdition r => r.body.map fun f => (r.tag, 0x0102, f.bytes)
  | .editionInfo r => r.body.map fun f => (r.tag, 0x0103, f.bytes)
  | .pageInfo r => r.body.map fun f => (r.tag, 0x0104, f.bytes)
  | .plateInfo r => r.body.map fun f => (r.tag, 0x0105, f.bytes)
  | .suppressArm r => r.body.map fun f => (r.tag, 0x0106, f.bytes)
  | .suppress r => r.body.map fun f => (r.tag, 0x0107, f.bytes)
  | .filePhoto r => r.body.map fun f => (r.tag, 0x0201, f.bytes)
  | .setRights r => r.body.map fun f => (r.tag, 0x0202, f.bytes)
  | .barPhoto r => r.body.map fun f => (r.tag, 0x0203, beBytes 2 f)
  | .unbarPhoto r => r.body.map fun f => (r.tag, 0x0204, beBytes 2 f)
  | .removePhoto r => r.body.map fun f => (r.tag, 0x0205, beBytes 2 f)
  | .photoInfo r => r.body.map fun f => (r.tag, 0x0206, beBytes 2 f)
  | .deposit r => r.body.map fun f => (r.tag, 0x0301, f.bytes)
  | .redeposit r => r.body.map fun f => (r.tag, 0x0302, f.bytes)
  | .depositEnd r => r.body.map fun f => (r.tag, 0x0303, beBytes 1 f)
  | .withdrawPlate r => r.body.map fun f => (r.tag, 0x0304, f.bytes)
  | .closeEdition r => r.body.map fun f => (r.tag, 0x0305, f.bytes)
  | .unitList r => r.body.map fun _ => (r.tag, 0x0401, [])
  | .unitState r => r.body.map fun f => (r.tag, 0x0402, f.bytes)
  | .holdClass r => r.body.map fun f => (r.tag, 0x0403, beBytes 1 f)
  | .releaseClass r => r.body.map fun f => (r.tag, 0x0404, beBytes 1 f)
  | .setCommitLimit r => r.body.map fun f => (r.tag, 0x0405, beBytes 1 f)
  | .queueList r => r.body.map fun _ => (r.tag, 0x0406, [])
  | .fetch r => r.body.map fun f => (r.tag, 0x0501, f.bytes)
  | .ticketList r => r.body.map fun _ => (r.tag, 0x0502, [])
  | .restore r => r.body.map fun f => (r.tag, 0x0601, f.bytes)
  | .jobInfo r => r.body.map fun f => (r.tag, 0x0602, writeOption (beBytes 2) f)
  | .cancelJob r => r.body.map fun f => (r.tag, 0x0603, beBytes 2 f)
  | .setProfile r => r.body.map fun f => (r.tag, 0x0604, f.bytes)
  | .toneTable r => r.body.map fun f => (r.tag, 0x0605, f.bytes)
  | .placeOrder r => r.body.map fun f => (r.tag, 0x0701, f.bytes)
  | .orderInfo r => r.body.map fun f => (r.tag, 0x0702, writeOption (beBytes 2) f)
  | .collect r => r.body.map fun f => (r.tag, 0x0703, f.bytes)
  | .cancelOrder r => r.body.map fun f => (r.tag, 0x0704, beBytes 2 f)
  | .setTariff r => r.body.map fun f => (r.tag, 0x0801, f.bytes)
  | .accountOpen r => r.body.map fun f => (r.tag, 0x0802, f.bytes)
  | .accountCredit r => r.body.map fun f => (r.tag, 0x0803, f.bytes)
  | .accountLimit r => r.body.map fun f => (r.tag, 0x0804, f.bytes)
  | .accountState r => r.body.map fun f => (r.tag, 0x0805, f.bytes)
  | .accountInfo r => r.body.map fun f => (r.tag, 0x0806, beBytes 2 f)
  | .holderSet r => r.body.map fun f => (r.tag, 0x0807, f.bytes)
  | .holderPayout r => r.body.map fun f => (r.tag, 0x0808, f.bytes)
  | .revenueInfo r => r.body.map fun f => (r.tag, 0x0809, writeOption (beBytes 1) f)
  | .status r => r.body.map fun _ => (r.tag, 0x0901, [])
  | .takeNotices r => r.body.map fun f => (r.tag, 0x0902, beBytes 1 f)
  | .setFilter r => r.body.map fun f => (r.tag, 0x0903, f.bytes)
  | .reset r => r.body.map fun _ => (r.tag, 0x0904, [])
  | .setDate r => r.body.map fun f => (r.tag, 0x0A01, f.bytes)
  | .unknownRequest .. => none
  | .requestFrame .. => none
  | .dataIn .. => none
  | .frameDiscard .. => none
  | .ticketDeliveryEnd => none
  | .itemDeliveryEnd => none
  | .stallTimerExpiry .. => none
  | .ticketCollectExpiry .. => none
  | .itemCollectExpiry .. => none
  | .closeTimerExpiry .. => none
  | .armTimerExpiry => none
  | .operationLimitExpiry .. => none
  | .writeHoldExpiry => none
  | .timeBaseTick => none
  | .timeWrap => none
  | .dayRoll => none
  | .commitGrant .. => none
  | .readGrant .. => none
  | .writeVerifyOk .. => none
  | .writeVerifyError .. => none
  | .readAnswer .. => none
  | .tileWritten => none
  | .supplyLow => none
  | .supplyNormal => none
  | .brownoutReset => none
  | .powerReset => none
  | .supplyRecovered => none
  | .lineAssert => none
  | .lineRelease => none
  | .linkReset => none
  | .unitQueryAnswer .. => none
  | .queryLimitExpiry .. => none

/-- The command a word spells by the opcode table's bits. The table gives no row any bits, so no word spells
one. -/
def decodeTableWord (_nbits _w : Nat) : Option Instr := none

end Sys2Proof
end

