-- ==== Sys2Proof/Config.lean ====
section
/-! DEFINITION. The capacities the manual fixes for the part, and the values it leaves open. A free value takes as
argument how many free values have been used before it (`State.freeCount`). -/

namespace Sys2Proof.Config

/-- Edition records the store has room for (R1). -/
abbrev editionRoom : Nat := 16384
/-- Slabs of the Staging Pool (R92). -/
abbrev slabTotal : Nat := 32768
/-- The deposit reserve: free slabs that holders other than deposits may not take (R93). -/
abbrev depositReserve : Nat := 8192
/-- Commit-queue places (R45). -/
abbrev commitPlaces : Nat := 64
/-- Tickets the Ticket Table holds (R96). -/
abbrev ticketRoom : Nat := 8
/-- Jobs the Restoration Queue holds (R114). -/
abbrev jobRoom : Nat := 16
/-- Items a job's waiting list holds (R114). -/
abbrev waitingRoom : Nat := 8
/-- Orders the Order Book holds (R145). -/
abbrev orderRoom : Nat := 32
/-- Notices the Notice Queue holds (R200). -/
abbrev noticeRoom : Nat := 128
/-- REQUEST frames the request input buffer holds (R194). -/
abbrev bufferRoom : Nat := 8

/-- A free value. R75 has UNIT-FAULTED name the cause of the last failure, "ERROR or
EXPIRED"; a read that fails its second try by MISMATCH is neither, and the manual does not say which of the
two the notice then names. `true` stands for ERROR. (Log 13.) -/
opaque mismatchCauseIsError : Nat → Bool

/-- A free value. R93 grants a number of slabs and does not say which of the free slabs they are: this picks, for
the slab of the grant with the given index, one of those still free. (Log 12.) -/
opaque slabPick : Nat → Nat → Nat

/-- A free value. R199 has a reset end the outbound stream "at the byte it has reached", which the manual does not
place: this many of a delivery's frames, modulo their number, had then been sent whole. (Log 22.) -/
opaque framesSentBeforeCut : Nat → Nat

/-- A free value. A reset that falls during the recovery pass "leaves each record either changed or not" (R218): whether
the pass had made the write with the given index. (Log 27.) -/
opaque writtenBeforeCut : Nat → Nat → Bool

end Sys2Proof.Config
end

