-- ==== Sys2Proof/Machine/State.lean ====
section
/-! DEFINITION. The state of the DA4 as plain data, the reasons a step can stop, and the state right after a
POWER reset of a part with a blank store. Each record follows the table of the rule its docstring names. -/

namespace Sys2Proof.Machine

/-! ### The catalogue -/

/-- Born digital, or scanned (R2). -/
inductive Source where
  | press
  | scan
deriving DecidableEq, Repr

/-- An edition's state; CLOSING holds the close target and the tick its 120 s timer started, which a reset
discards (R4, R61, R210). -/
inductive EditionState where
  | opened
  | closing (target : Nat) (timer : Option Tick)
  | closed
deriving DecidableEq, Repr

/-- The state of a plate's or photo's content (R14, R28). -/
inductive ContentState where
  | receiving
  | queued
  | committing
  | stored
  | incomplete
  | failed
  | suppressed
deriving DecidableEq, Repr

/-- Where stored content lies: unit position and first extent (R15). -/
structure Location where
  unit : Nat
  start : Nat
deriving DecidableEq, Repr

/-- A plate's restored copy (R16) with the check kept with it (R81). -/
structure RestoredCopy where
  loc : Location
  size : Nat
  profile : Nat
  repaired : Nat
  flat : Nat
  specks : Nat
  check : Check
deriving DecidableEq, Repr

/-- A plate record (R12). Its number is its position in the stack, from 1 (R8). -/
structure Plate where
  state : ContentState
  size : Nat
  tiles : Option (Nat × Nat)
  check : Check
  location : Option Location
  photos : List Nat
  restored : Option RestoredCopy
  readFaults : Nat
deriving DecidableEq, Repr

/-- A page slot: a page number and its plates in push order (R8). -/
structure PageSlot where
  page : Nat
  plates : List Plate
deriving DecidableEq, Repr

/-- An edition record; `pages` is its page map in ascending page number (R2, R3). -/
structure Edition where
  day : Nat
  index : Nat
  source : Source
  grade : Nat
  profile : Nat
  state : EditionState
  pages : List PageSlot
deriving DecidableEq, Repr

/-- A photo record (R27). -/
structure Photo where
  number : Nat
  state : ContentState
  size : Nat
  check : Check
  location : Option Location
  photoDay : Nat
  holder : Nat
  fee : Nat
  share : Nat
  embargo : Option Nat
  barred : Bool
  useCount : Nat
  readFaults : Nat
deriving DecidableEq, Repr

/-- A plate by edition key, page and plate number. -/
structure PlateRef where
  day : Nat
  index : Nat
  page : Nat
  plate : Nat
deriving DecidableEq, Repr

/-- A content record: a plate or a photo. -/
inductive Subject where
  | plate (p : PlateRef)
  | photo (number : Nat)
deriving DecidableEq, Repr

/-- A record's own content, or a plate's restored copy. -/
inductive Copy where
  | original
  | restored
deriving DecidableEq, Repr

/-- The suppression arm (R22). -/
structure Arm where
  plate : PlateRef
  number : Nat
  started : Tick
deriving DecidableEq, Repr

/-! ### Deposit, the Commit Queue and the units -/

/-- What bound a receive slot (R43). -/
inductive SlotKind where
  | push
  | refill
  | photo
deriving DecidableEq, Repr

/-- A BOUND receive slot (R43). The received count is the number of bytes kept; `slabs` are the slabs it holds, in
the order of the content they hold (R92). -/
structure Slot where
  record : Subject
  kind : SlotKind
  declared : Nat
  check : Check
  kept : List Byte
  fault : Bool
  crc : Check
  slabs : List Nat
  stall : Tick
deriving DecidableEq, Repr

/-- What a commit entry commits (R81). -/
inductive EntrySubject where
  | plate (p : PlateRef)
  | photo (number : Nat)
  | restored (job : Nat)
deriving DecidableEq, Repr

/-- An entry of the Commit Queue (R81); `content` is what it has in its slabs, `inFlight` the unit and the tick of
sending. -/
structure Entry where
  subject : EntrySubject
  extents : Nat
  check : Check
  content : List Byte
  slabs : List Nat
  attempts : Nat
  tried : List Nat
  inFlight : Option (Nat × Tick)
deriving DecidableEq, Repr

/-- Who asked for a read (R88). -/
inductive Owner where
  | ticket (number : Nat)
  | job (number : Nat)
  | item (order item : Nat)
deriving DecidableEq, Repr

/-- A read (R88). -/
structure Read where
  owner : Owner
  subject : Subject
  copy : Copy
  unit : Nat
  start : Nat
  extents : Nat
  size : Nat
  check : Check
deriving DecidableEq, Repr

/-- The work of an operation at a unit: a WRITE-VERIFY of an entry, or a READ with its try (1 or 2) and
whether its owner still stands (R91). -/
inductive Work where
  | write (subject : EntrySubject)
  | read (r : Read) (try_ : Nat) (owned : Bool)
deriving DecidableEq, Repr

/-- An operation outstanding at a unit: the number it was sent under (the model's own, log 30), its work, the tick it
was sent and its limit in seconds (R67, R73). -/
structure Operation where
  number : Nat
  work : Work
  sentAt : Tick
  limit : Nat
deriving DecidableEq, Repr

/-- A unit's state (R68). -/
inductive UnitState where
  | absent
  | online
  | readOnly
  | offline
  | faulted
deriving DecidableEq, Repr

/-- A unit record (R67). The unit is BUSY while `op` is present. An ABSENT position has 0 in its counts. -/
structure UnitRec where
  state : UnitState
  capacity : Nat
  free : Nat
  failures : Nat
  writeCount : Nat
  op : Option Operation
deriving DecidableEq, Repr

/-- A message the part sends a unit (R72); an operation carries its number (log 30). -/
inductive ChainMsg where
  | writeVerify (unit op extents size : Nat) (check : Check) (content : List Byte)
  | read (unit op start extents size : Nat)
  | abort (unit : Nat)
  | release (unit start extents : Nat)
  | query (unit : Nat)
deriving DecidableEq, Repr

/-- What a slab of the Staging Pool holds from its start on, as far as it has been written (R92). -/
structure SlabContent where
  slab : Nat
  bytes : List Byte
deriving DecidableEq, Repr

/-! ### Tickets, jobs and orders -/

/-- Where a copy lies, its size and its check, as a reader takes them (R96, R146). -/
structure CopySource where
  loc : Location
  size : Nat
  check : Check
deriving DecidableEq, Repr

/-- A ticket's state; READY holds the start of its 30 s collect timer, absent while it is being delivered
(R96, R103, R105). -/
inductive TicketState where
  | pending
  | reading
  | ready (timer : Option Tick)
deriving DecidableEq, Repr

/-- A ticket (R96); `content` is what has landed in its slabs. -/
structure Ticket where
  number : Nat
  subject : Subject
  copy : Copy
  state : TicketState
  source : CopySource
  slabs : List Nat
  content : List Byte
deriving DecidableEq, Repr

/-- A restoration profile (R110). -/
structure Profile where
  pLo : Nat
  pHi : Nat
  sMin : Nat
  threshold : Nat
  tone : List Nat
deriving DecidableEq, Repr

/-- A job's priority (R115). -/
inductive Priority where
  | desk
  | order
  | routine
deriving DecidableEq, Repr

/-- A job's state (R114). -/
inductive JobState where
  | waiting
  | fetching
  | repairing
  | repaired
  | committing
deriving DecidableEq, Repr

/-- A restoration job (R114). Arrival is its place in the list of jobs. `entered` is the tick it entered
REPAIRING, which JOB-INFO counts from (R128). -/
structure Job where
  number : Nat
  plate : PlateRef
  profile : Nat
  priority : Priority
  state : JobState
  creator : Option (Nat × Nat)
  hostInterest : Bool
  waiting : List (Nat × Nat)
  landed : Bool
  profileCopy : Option Profile
  entered : Tick
  tilesDone : Nat
  repaired : Nat
  flat : Nat
  specks : Nat
  inputSlabs : List Nat
  outputSlabs : List Nat
  input : List Byte
  output : List Byte
  outputCheck : Option Check
  stored : Option Location
deriving DecidableEq, Repr

/-- The Repair Engine's work: the job and the tile in progress (R129). -/
structure EngineWork where
  job : Nat
  cursor : Nat
deriving DecidableEq, Repr

/-- The four products (R146, R167). -/
inductive Product where
  | pagePrint
  | pageFile
  | photoPrint
  | photoFile
deriving DecidableEq, Repr

/-- An item's restoration choice as the request gave it (R146). -/
inductive Choice where
  | none
  | auto
  | profile (p : Nat)
deriving DecidableEq, Repr

/-- The copy an item is bound to (R150). -/
inductive Bound where
  | original
  | restored (profile : Nat)
deriving DecidableEq, Repr

/-- What an item's price depends on, fixed at acceptance (R169). -/
structure Snapshot where
  base : Nat
  ageYears : Nat
  ageRate : Nat
  tileRate : Nat
  cap : Nat
  fee : Nat
  holder : Nat
  share : Nat
deriving DecidableEq, Repr

/-- Why an item was cancelled (R162). -/
inductive CancelReason where
  | orderCancelled
  | expired
  | fetchFailed
  | restoreFailed
  | jobCancelled
  | barred
  | suppressed
deriving DecidableEq, Repr

/-- An item's state; READY holds the start of its 300 s collect timer, absent while it is being delivered
(R146, R157, R160). -/
inductive ItemState where
  | pending
  | waitRestore (job : Option Nat)
  | waitEmbargo
  | fetching
  | ready (timer : Option Tick)
  | collected
  | cancelled (reason : CancelReason)
deriving DecidableEq, Repr

/-- An order item (R146). Its number is its position in the order's list, from 1. -/
structure ItemRec where
  product : Product
  subject : Subject
  choice : Choice
  bound : Bound
  toBeMade : Bool
  snapshot : Snapshot
  causedRepair : Bool
  embargoPassed : Bool
  state : ItemState
  slabs : List Nat
  source : Option CopySource
  copyTiles : Option Nat
  content : List Byte
deriving DecidableEq, Repr

/-- An open order (R145). -/
structure OrderRec where
  number : Nat
  account : Nat
  reservation : Nat
  discount : Nat
  items : List ItemRec
  turn : List Nat
  acceptedAt : Tick
deriving DecidableEq, Repr

/-! ### Tariff -/

/-- A tariff line (R167). -/
structure TariffLine where
  base : Nat
  ageRate : Nat
  tileRate : Nat
  cap : Nat
deriving DecidableEq, Repr

/-- The four tariff lines (R167). -/
structure Tariff where
  pagePrint : TariffLine
  pageFile : TariffLine
  photoPrint : TariffLine
  photoFile : TariffLine
deriving DecidableEq, Repr

/-- An account; `reserved` belongs to the Order Book's volatile work (R180). -/
structure Account where
  number : Nat
  suspended : Bool
  balance : Int
  limit : Nat
  tier : Nat
  reserved : Nat
deriving DecidableEq, Repr

/-- A Holder Table entry (R186). What accrued and paid do past 64 bits the manual does not say: that they count on is the
model's choice (log 34). -/
structure HolderRec where
  label : List Byte
  accrued : Nat
  paid : Nat
deriving DecidableEq, Repr

/-- The revenue counters (R179). What they do past 64 bits the manual does not say: that they count on is the model's
choice (log 34). -/
structure Revenue where
  orders : Nat
  charges : Nat
  rights : Nat
  accruals : Nat
  houseRights : Nat
  houseRevenue : Nat
deriving DecidableEq, Repr

/-! ### Link, notices, calendar, supply -/

/-- One field of a reply or notice at its width on the wire (R198). -/
inductive Wire where
  | u8 (n : Nat)
  | u16 (n : Nat)
  | u32 (n : Nat)
  | u64 (n : Nat)
  | s32 (i : Int)
  | raw (b : List Byte)
deriving DecidableEq, Repr

/-- The notice kinds, in the order of R200's table of categories. -/
inductive NoticeKind where
  | contentStored
  | contentFailed
  | depositStalled
  | editionClosed
  | closeFailed
  | plateSuppressed
  | photoBarred
  | unitFaulted
  | ticketReady
  | ticketExpired
  | fetchFailed
  | jobDone
  | jobFailed
  | itemReady
  | itemCancelled
  | orderSettled
  | queueHalf
  | started
  | dayRolled
  | timeWrap
  | supplyLow
  | supplyNormal
deriving DecidableEq, Repr

/-- The notice categories (R200). -/
inductive Category where
  | edition
  | medium
  | fetch
  | restore
  | order
  | system
deriving DecidableEq, Repr

/-- What a notice is about (R200, R198). -/
inductive NoticeSubject where
  | none
  | plate (p : PlateRef)
  | photo (number : Nat)
  | edition (day index : Nat)
  | ticket (number : Nat)
  | job (number : Nat)
  | item (order item : Nat)
  | unit (position : Nat)
deriving DecidableEq, Repr

/-- A notice; its category is fixed by its kind (R200). -/
structure Notice where
  kind : NoticeKind
  stamp : Tick
  subject : NoticeSubject
  detail : List Wire
deriving DecidableEq, Repr

/-- The notice filter: the categories enabled; SYSTEM always is (R204). -/
structure Filter where
  edition : Bool
  medium : Bool
  fetch : Bool
  restore : Bool
  order : Bool
deriving DecidableEq, Repr

/-- The refusal reasons, in R197's order. -/
inductive Reason where
  | unknownRequest
  | malformed
  | noSuch
  | duplicate
  | wrongState
  | wrongSource
  | stackFull
  | queueFull
  | stagingFull
  | tableFull
  | countMismatch
  | unsettled
  | held
  | plateBusy
  | tooLate
  | suppressed
  | barred
  | embargoed
  | funds
  | accountSuspended
  | outOfRange
  | badArm
  | checkMismatch
  | short
  | sequence
  | dateUnset
deriving DecidableEq, Repr

/-- The retry reasons, in R197's order. -/
inductive RetryReason where
  | commitPending
  | notReady
  | ticketsFull
  | noRoom
  | noSlot
  | starting
deriving DecidableEq, Repr

/-- The number a RETRY carries (R196, R197). -/
inductive RetryNumber where
  | none
  | ticket (n : Nat)
  | order (n : Nat)
deriving DecidableEq, Repr

/-- What a REPLY says: its code with the bytes and fields its body holds (R196). -/
inductive ReplyBody where
  | done (fields : List Wire)
  | refused (reason : Reason) (fields : List Wire)
  | retry (reason : RetryReason) (number : RetryNumber) (fields : List Wire)
deriving DecidableEq, Repr

/-- A frame the part sends (R190). -/
inductive OutFrame where
  | reply (tag : Nat) (body : ReplyBody)
  | dataOut (tag offset : Nat) (data : List Byte)
deriving DecidableEq, Repr

/-- A REQUEST frame in the request input buffer (R194). -/
structure RequestFrame where
  tag : Nat
  code : Nat
  body : List Byte
deriving DecidableEq, Repr

/-- The receiver (R192). HUNTING remembers whether the byte before was 0xA5; READING holds the bytes taken
since the opening mark. -/
inductive Receiver where
  | hunting (marked : Bool)
  | reading (taken : List Byte)
deriving DecidableEq, Repr

/-- What a delivery delivers (R105, R160). -/
inductive Delivery where
  | ticket (number : Nat)
  | item (order item : Nat)
deriving DecidableEq, Repr

/-- The outbound stream: IDLE, or SENDING a delivery's DATA-OUT frames and DONE (R199). -/
inductive Outbound where
  | idle
  | sending (what : Delivery) (frames : List OutFrame)
deriving DecidableEq, Repr

/-- The Calendar's fields while the date is SET (R211). -/
structure Date where
  today : Nat
  seconds : Nat
  ticks : Nat
deriving DecidableEq, Repr

/-- The supply state (R214). -/
inductive Supply where
  | normal
  | low
deriving DecidableEq, Repr

/-- The part state (R206, R217). -/
inductive PartState where
  | starting
  | ready
deriving DecidableEq, Repr

/-- The reset kinds (R216). -/
inductive ResetCause where
  | power
  | brownout
  | line
  | link
deriving DecidableEq, Repr

/-- A write the recovery pass makes to the catalogue store, with what the record held before it: content made
INCOMPLETE, or a CLOSING edition made OPEN (R218). -/
inductive PassWrite where
  | content (record : Subject) (was : ContentState) (location : Option Location)
  | close (day index target : Nat)
deriving DecidableEq, Repr

/-! ### The state -/

/-- Everything the manual gives the part, and last the model's own fields: the writes of the recovery pass under way, the
traces of what has been sent on the link and on the medium chain, the count of operations sent, that of free values used
and the queue of commands. -/
structure State where
  /- catalogue store, non-volatile (R1, R216) -/
  editions : List Edition
  photos : List Photo
  profiles : List Profile
  tariff : Tariff
  accounts : List Account
  holders : List HolderRec
  revenue : Revenue
  commitLimit : Nat
  filter : Filter
  /- deposit, commit, units -/
  arm : Option Arm
  slots : List (Option Slot)
  queue : List Entry
  units : List UnitRec
  reads : List Read
  held2 : Bool
  held3 : Bool
  free : Nat
  staging : List SlabContent
  /- tickets, jobs, orders -/
  tickets : List Ticket
  nextTicket : Nat
  jobs : List Job
  nextJob : Nat
  engine : Option EngineWork
  orders : List OrderRec
  nextOrder : Nat
  slabWait : List (Nat × Nat)
  restoreWait : List (Nat × Nat)
  /- notices and link -/
  notices : List Notice
  queueFull : Bool
  halfArmed : Bool
  attention : Bool
  receiver : Receiver
  inputBuffer : List RequestFrame
  outbound : Outbound
  linkResetDue : Bool
  /- calendar, supply, resets -/
  timeBase : Tick
  date : Option Date
  supply : Supply
  part : PartState
  lastCause : ResetCause
  supplyHeld : Bool
  lineHeld : Bool
  queries : List (Option Tick)
  incomplete : Nat
  writeHold : Option Tick
  /- the model's own -/
  passWrites : List PassWrite
  linkOut : List OutFrame
  chainOut : List ChainMsg
  opCount : Nat
  freeCount : Nat
  pending : List Instr
deriving DecidableEq, Repr

/-! ### Reasons a step can stop -/

/-- No command of the manual stops the part, so there is no fault. -/
inductive Fault where
deriving DecidableEq, Repr

/-- The one refusal is the host's: an arm whose command has no meaning yet. No arm uses it, so it is safe. -/
inductive Refusal where
  /-- Raised by `exec`'s arm for a command with no meaning; safe. -/
  | notModelled (mnemonic : String)
deriving DecidableEq, Repr

/-! ### Reset -/

/-- A profile as a blank store holds it (R110). -/
def factoryProfile : Profile := ⟨1, 99, 16, 48, List.range 256⟩

/-- The tariff lines of a blank store (R167). -/
def factoryTariff : Tariff := ⟨⟨4000, 10, 3, 2500⟩, ⟨2000, 10, 3, 2500⟩, ⟨3000, 10, 0, 0⟩, ⟨1000, 10, 0, 0⟩⟩

/-- A Holder Table entry of a blank store: 16 spaces, nothing accrued or paid (R186). -/
def factoryHolder : HolderRec := ⟨List.replicate 16 0x20#8, 0, 0⟩

/-- A position no unit has answered at (R67). -/
def absentUnit : UnitRec := ⟨.absent, 0, 0, 0, 0, none⟩

/-- The part right after a POWER reset, its catalogue store blank: the reset holds until the supply rises
above 3.10 V (R216). (Log 4, 12, 24, 27, 30.) -/
def State.reset : State where
  editions := []
  photos := []
  profiles := List.replicate 8 factoryProfile
  tariff := factoryTariff
  accounts := []
  holders := List.replicate 64 factoryHolder
  revenue := ⟨0, 0, 0, 0, 0, 0⟩
  commitLimit := 4
  filter := ⟨true, true, true, true, true⟩
  arm := none
  slots := List.replicate 4 none
  queue := []
  units := List.replicate 4 absentUnit
  reads := []
  held2 := false
  held3 := false
  free := Config.slabTotal
  staging := []
  tickets := []
  nextTicket := 1
  jobs := []
  nextJob := 1
  engine := none
  orders := []
  nextOrder := 1
  slabWait := []
  restoreWait := []
  notices := []
  queueFull := false
  halfArmed := true
  attention := false
  receiver := .hunting false
  inputBuffer := []
  outbound := .idle
  linkResetDue := false
  timeBase := 0
  date := none
  supply := .normal
  part := .starting
  lastCause := .power
  supplyHeld := true
  lineHeld := false
  queries := List.replicate 4 none
  incomplete := 0
  writeHold := none
  passWrites := []
  linkOut := []
  chainOut := []
  opCount := 0
  freeCount := 0
  pending := []

end Sys2Proof.Machine
end

