-- ==== Sys2Proof/Machine/Checks.lean ====
section
/-! DEFINITION. The two cyclic redundancy checks: CRC-32 of content (R52) and CRC-16 of a frame (R191). -/

namespace Sys2Proof.Machine

/-- One shift of the CRC-32 remainder toward its low end (R52). -/
def crc32Shift (r : Check) : Check :=
  if r.getLsbD 0 then (r >>> 1) ^^^ 0xEDB88320#32 else r >>> 1

/-- A byte taken into the CRC-32 remainder: exclusive-or into its low eight bits, then eight shifts (R52). -/
def crc32Byte (r : Check) (b : Byte) : Check :=
  let r := r ^^^ b.setWidth 32
  crc32Shift (crc32Shift (crc32Shift (crc32Shift (crc32Shift (crc32Shift (crc32Shift (crc32Shift r)))))))

/-- The remainder before the first byte: all 32 bits set (R52). -/
def crc32Start : Check := 0xFFFFFFFF#32

/-- The remainder carried forward over bytes in order (R52). -/
def crc32Run (r : Check) (b : List Byte) : Check := b.foldl crc32Byte r

/-- The completed CRC-32: all bits of the remainder inverted (R52). -/
def crc32End (r : Check) : Check := ~~~r

/-- The CRC-32 of content (R52). -/
def crc32 (b : List Byte) : Check := crc32End (crc32Run crc32Start b)

/-- One shift of the CRC-16 remainder toward its high end (R191). -/
def crc16Shift (r : BitVec 16) : BitVec 16 :=
  if r.getLsbD 15 then (r <<< 1) ^^^ 0x1021#16 else r <<< 1

/-- A byte taken into the CRC-16 remainder (R191). -/
def crc16Byte (r : BitVec 16) (b : Byte) : BitVec 16 :=
  let r := r ^^^ (b.setWidth 16 <<< 8)
  crc16Shift (crc16Shift (crc16Shift (crc16Shift (crc16Shift (crc16Shift (crc16Shift (crc16Shift r)))))))

/-- The CRC-16 of a frame's bytes, with no inversion (R191). -/
def crc16 (b : List Byte) : BitVec 16 := b.foldl crc16Byte 0xFFFF#16

end Sys2Proof.Machine
end

