-- ==== Sys2Proof/Machine/Wire.lean ====
section
/-! DEFINITION. How the part's fields are laid out on the wire (R190, R196, R197, R198): the number of every
named value, the optional fields, lists and subjects of replies and notices, and the bytes of a frame. A named
value is numbered from 1 in the order its owning table or rule lists it (R198). The places where R198 leaves
the layout of one field open are gathered in log 14. -/

namespace Sys2Proof.Machine

/-- The bytes of one field, most significant first (R190, R198). -/
def Wire.bytes : Wire → List Byte
  | .u8 n => beBytes 1 n
  | .u16 n => beBytes 2 n
  | .u32 n => beBytes 4 n
  | .u64 n => beBytes 8 n
  | .s32 i => beBytes 4 (signedToNat i)
  | .raw b => b

/-- Fields follow one another with no padding (R198). -/
def wireBytes (l : List Wire) : List Byte := l.flatMap Wire.bytes

/-- A mark or flag: 0 clear, 1 set (R198). -/
def flag (b : Bool) : Wire := .u8 (if b then 1 else 0)

/-- A check (R198). -/
def wireCheck (c : Check) : Wire := .u32 c.toNat

/-- A value of the time base (R198). -/
def wireTick (t : Tick) : Wire := .u32 t.toNat

/-- An optional field: a presence byte, then the field (R198). -/
def optional {α : Type} (f : α → List Wire) : Option α → List Wire
  | none => [.u8 0]
  | some a => .u8 1 :: f a

/-- A list: the number of its members, then each member's fields (R198). -/
def listOf {α : Type} (f : α → List Wire) (l : List α) : List Wire := .u16 l.length :: l.flatMap f

/-- A set: bit k set for member k (R198). -/
def memberBits (l : List Nat) : Wire :=
  .u8 ((if 0 ∈ l then 1 else 0) + (if 1 ∈ l then 2 else 0) + (if 2 ∈ l then 4 else 0) + (if 3 ∈ l then 8 else 0))

/-! ### Named values -/

def Source.code : Source → Nat
  | .press => 1
  | .scan => 2

def EditionState.code : EditionState → Nat
  | .opened => 1
  | .closing _ _ => 2
  | .closed => 3

def ContentState.code : ContentState → Nat
  | .receiving => 1
  | .queued => 2
  | .committing => 3
  | .stored => 4
  | .incomplete => 5
  | .failed => 6
  | .suppressed => 7

def Copy.code : Copy → Nat
  | .original => 1
  | .restored => 2

def UnitState.code : UnitState → Nat
  | .absent => 1
  | .online => 2
  | .readOnly => 3
  | .offline => 4
  | .faulted => 5

def TicketState.code : TicketState → Nat
  | .pending => 1
  | .reading => 2
  | .ready _ => 3

def Priority.code : Priority → Nat
  | .desk => 1
  | .order => 2
  | .routine => 3

def JobState.code : JobState → Nat
  | .waiting => 1
  | .fetching => 2
  | .repairing => 3
  | .repaired => 4
  | .committing => 5

def Product.code : Product → Nat
  | .pagePrint => 1
  | .pageFile => 2
  | .photoPrint => 3
  | .photoFile => 4

def ItemState.code : ItemState → Nat
  | .pending => 1
  | .waitRestore _ => 2
  | .waitEmbargo => 3
  | .fetching => 4
  | .ready _ => 5
  | .collected => 6
  | .cancelled _ => 7

def CancelReason.code : CancelReason → Nat
  | .orderCancelled => 1
  | .expired => 2
  | .fetchFailed => 3
  | .restoreFailed => 4
  | .jobCancelled => 5
  | .barred => 6
  | .suppressed => 7

def Supply.code : Supply → Nat
  | .normal => 1
  | .low => 2

def PartState.code : PartState → Nat
  | .starting => 1
  | .ready => 2

def ResetCause.code : ResetCause → Nat
  | .power => 1
  | .brownout => 2
  | .line => 3
  | .link => 4

/-- ACTIVE or SUSPENDED (R180). -/
def accountStateCode (suspended : Bool) : Nat := if suspended then 2 else 1

/-- ENABLED or DISABLED (R204). -/
def enabledCode (on : Bool) : Nat := if on then 1 else 2

/-- SET or UNSET (R211). -/
def dateStateCode (d : Option Date) : Nat := if d.isSome then 1 else 2

def NoticeKind.code : NoticeKind → Nat
  | .contentStored => 1
  | .contentFailed => 2
  | .depositStalled => 3
  | .editionClosed => 4
  | .closeFailed => 5
  | .plateSuppressed => 6
  | .photoBarred => 7
  | .unitFaulted => 8
  | .ticketReady => 9
  | .ticketExpired => 10
  | .fetchFailed => 11
  | .jobDone => 12
  | .jobFailed => 13
  | .itemReady => 14
  | .itemCancelled => 15
  | .orderSettled => 16
  | .queueHalf => 17
  | .started => 18
  | .dayRolled => 19
  | .timeWrap => 20
  | .supplyLow => 21
  | .supplyNormal => 22

/-- The category a notice kind falls into (R200). -/
def NoticeKind.category : NoticeKind → Category
  | .contentStored => .edition
  | .contentFailed => .edition
  | .depositStalled => .edition
  | .editionClosed => .edition
  | .closeFailed => .edition
  | .plateSuppressed => .edition
  | .photoBarred => .edition
  | .unitFaulted => .medium
  | .ticketReady => .fetch
  | .ticketExpired => .fetch
  | .fetchFailed => .fetch
  | .jobDone => .restore
  | .jobFailed => .restore
  | .itemReady => .order
  | .itemCancelled => .order
  | .orderSettled => .order
  | .queueHalf => .system
  | .started => .system
  | .dayRolled => .system
  | .timeWrap => .system
  | .supplyLow => .system
  | .supplyNormal => .system

def Category.code : Category → Nat
  | .edition => 1
  | .medium => 2
  | .fetch => 3
  | .restore => 4
  | .order => 5
  | .system => 6

def Reason.code : Reason → Nat
  | .unknownRequest => 1
  | .malformed => 2
  | .noSuch => 3
  | .duplicate => 4
  | .wrongState => 5
  | .wrongSource => 6
  | .stackFull => 7
  | .queueFull => 8
  | .stagingFull => 9
  | .tableFull => 10
  | .countMismatch => 11
  | .unsettled => 12
  | .held => 13
  | .plateBusy => 14
  | .tooLate => 15
  | .suppressed => 16
  | .barred => 17
  | .embargoed => 18
  | .funds => 19
  | .accountSuspended => 20
  | .outOfRange => 21
  | .badArm => 22
  | .checkMismatch => 23
  | .short => 24
  | .sequence => 25
  | .dateUnset => 26

def RetryReason.code : RetryReason → Nat
  | .commitPending => 1
  | .notReady => 2
  | .ticketsFull => 3
  | .noRoom => 4
  | .noSlot => 5
  | .starting => 6

/-! ### Subjects and small records -/

/-- A subject is a kind byte and 5 bytes (R198). -/
def NoticeSubject.wire : NoticeSubject → List Wire
  | .none => [.u8 0, .raw (beBytes 5 0)]
  | .plate p => [.u8 1, .u16 p.day, .u8 p.index, .u8 p.page, .u8 p.plate]
  | .photo n => [.u8 2, .u16 n, .raw (beBytes 3 0)]
  | .edition day index => [.u8 3, .u16 day, .u8 index, .raw (beBytes 2 0)]
  | .ticket n => [.u8 4, .u8 n, .raw (beBytes 4 0)]
  | .job n => [.u8 5, .u8 n, .raw (beBytes 4 0)]
  | .item o i => [.u8 6, .u8 o, .u8 i, .raw (beBytes 3 0)]
  | .unit u => [.u8 7, .u8 u, .raw (beBytes 4 0)]

/-- A content record as a notice's subject. -/
def Subject.notice : Subject → NoticeSubject
  | .plate p => .plate p
  | .photo n => .photo n

def Subject.wire (x : Subject) : List Wire := x.notice.wire

/-- A commit entry's subject on the wire (R71, R86). R198 lists no kind for a restored copy; that it goes as kind 5, job, with
the number of its job, which R81 gives the entry, is the model's choice (log 14). -/
def EntrySubject.notice : EntrySubject → NoticeSubject
  | .plate p => .plate p
  | .photo n => .photo n
  | .restored j => .job j

/-- A read's owner as a detail carries it (R90, R198). -/
def Owner.notice : Owner → NoticeSubject
  | .ticket n => .ticket n
  | .job n => .job n
  | .item o i => .item o i

def Owner.wire (o : Owner) : List Wire := o.notice.wire

/-- A choice: its value, then the profile number (R198). -/
def Choice.wire : Choice → List Wire
  | .none => [.u8 1, .u8 0]
  | .auto => [.u8 2, .u8 0]
  | .profile p => [.u8 3, .u8 p]

/-- A bound copy: its value, then the profile number (R198). -/
def Bound.wire : Bound → List Wire
  | .original => [.u8 1, .u8 0]
  | .restored p => [.u8 2, .u8 p]

/-- A location: the unit's position, then the start extent. R198 names no width for a start extent; that it has 4 bytes,
as extent counts, capacities and free extents have, is the model's choice (log 14). -/
def Location.wire (l : Location) : List Wire := [.u8 l.unit, .u32 l.start]

/-- A notice as TAKE-NOTICES gives it (R198). -/
def Notice.wire (n : Notice) : List Wire :=
  [.u8 n.kind.code, .u8 n.kind.category.code, wireTick n.stamp] ++ n.subject.wire
    ++ [.u8 (wireBytes n.detail).length] ++ n.detail

/-! ### Frames -/

/-- The reply code (R197). -/
def ReplyBody.code : ReplyBody → Nat
  | .done _ => 0x8001
  | .refused _ _ => 0x8002
  | .retry _ _ _ => 0x8003

/-- The number a RETRY carries: its kind byte, then the number (R196, R197). -/
def RetryNumber.wire : RetryNumber → List Wire
  | .none => [.u8 0]
  | .ticket n => [.u8 1, .u8 n]
  | .order n => [.u8 3, .u8 n]

/-- The fields of a reply's body (R196). -/
def ReplyBody.wire : ReplyBody → List Wire
  | .done fields => fields
  | .refused reason fields => .u8 reason.code :: fields
  | .retry reason number fields => .u8 reason.code :: (number.wire ++ fields)

/-- The bytes the check of a frame covers: length, kind, tag, code and body (R190, R191). -/
def frameInner (kind tag code : Nat) (body : List Byte) : List Byte :=
  beBytes 2 body.length ++ beBytes 1 kind ++ beBytes 1 tag ++ beBytes 2 code ++ body

/-- A frame's bytes: the opening mark, the checked bytes, the check (R190). -/
def frameBytes (kind tag code : Nat) (body : List Byte) : List Byte :=
  0xA5#8 :: 0x5A#8 :: (frameInner kind tag code body ++ beBytes 2 (crc16 (frameInner kind tag code body)).toNat)

/-- The bytes of a frame the part sends (R190, R197). -/
def OutFrame.bytes : OutFrame → List Byte
  | .reply tag b => frameBytes 2 tag b.code (wireBytes b.wire)
  | .dataOut tag offset data => frameBytes 4 tag 0 (beBytes 4 offset ++ data)

end Sys2Proof.Machine
end

