-- ==== Sys2Proof/Machine/Flags.lean ====
section
/-! DEFINITION. The Notice Queue with its queue-full flag, half mark and category filter, and the attention
line (R200 to R205). -/

namespace Sys2Proof.Machine

/-- The category is enabled by the filter; SYSTEM always is (R204). -/
def Filter.passes (f : Filter) : Category → Bool
  | .edition => f.edition
  | .medium => f.medium
  | .fetch => f.fetch
  | .restore => f.restore
  | .order => f.order
  | .system => true

/-- A notice joins the end of the queue and the attention line is driven (R201, step 3, R205). -/
def joinNotices (n : Notice) (s : State) : State :=
  { s with notices := s.notices ++ [n], attention := true }

/-- The half mark after a notice has joined: the count reaching 64 while the mark is ARMED queues QUEUE-HALF
directly after it and spends the mark (R202). -/
def halfCheck (s : State) : State :=
  if s.notices.length = 64 ∧ s.halfArmed = true then
    { joinNotices ⟨.queueHalf, s.timeBase, .none, []⟩ s with halfArmed := false }
  else s

/-- A rule raises a notice (R201). From a reset until READY nothing is queued (R216). -/
def raise (kind : NoticeKind) (subject : NoticeSubject) (detail : List Wire) (s : State) : State :=
  if s.part = .starting then s
  else if s.filter.passes kind.category = false then s
  else if Config.noticeRoom ≤ s.notices.length then { s with queueFull := true }
  else halfCheck (joinNotices ⟨kind, s.timeBase, subject, detail⟩ s)

/-- How many notices a TAKE-NOTICES of n asks for: 0 is taken as 1, above 16 as 16 (R203). -/
def noticesAsked (n : Nat) : Nat := if n = 0 then 1 else min n 16

/-- The oldest notices leave the queue, the queue-full flag is cleared, a count left below 64 arms the half
mark, and an empty queue releases the attention line (R202, R203, R205). -/
def dropNotices (n : Nat) (s : State) : State :=
  let left := s.notices.drop (noticesAsked n)
  { s with
    notices := left
    queueFull := false
    halfArmed := s.halfArmed || decide (left.length < 64)
    attention := !left.isEmpty }

end Sys2Proof.Machine
end

