-- ==== Sys2Proof/Machine/Operands.lean ====
section
/-! DEFINITION. How a request's references find their records: editions, pages and plates (R19), photos, hold
counts (R18, R30), the binding test (R116), and the changes of one record that the rest of the model is
written with. -/

namespace Sys2Proof.Machine

/-! ### Catalogue records -/

def Edition.hasKey (day index : Nat) (e : Edition) : Bool := decide (e.day = day) && decide (e.index = index)

/-- The edition with this key (R2). -/
def findEdition (s : State) (day index : Nat) : Option Edition := s.editions.find? (Edition.hasKey day index)

/-- A change of the edition with this key. -/
def modifyEdition (day index : Nat) (f : Edition → Edition) (s : State) : State :=
  { s with editions := s.editions.map fun e => if e.hasKey day index then f e else e }

/-- The page slot at a page number (R3). -/
def Edition.slot (e : Edition) (page : Nat) : Option PageSlot := e.pages.find? fun p => decide (p.page = page)

/-- The plate with a number from 1 (R8). -/
def PageSlot.plate (p : PageSlot) (n : Nat) : Option Plate := if n = 0 then none else p.plates[n - 1]?

/-- The plate a reference names. -/
def findPlate (s : State) (r : PlateRef) : Option Plate :=
  (findEdition s r.day r.index).bind fun e => (e.slot r.page).bind fun p => p.plate r.plate

/-- A change of the page slot at a page number. -/
def Edition.modifySlot (page : Nat) (f : PageSlot → PageSlot) (e : Edition) : Edition :=
  { e with pages := e.pages.map fun p => if p.page = page then f p else p }

/-- A change of the plate a reference names. -/
def modifyPlate (r : PlateRef) (f : Plate → Plate) (s : State) : State :=
  modifyEdition r.day r.index
    (Edition.modifySlot r.page fun p => { p with plates := p.plates.modify (r.plate - 1) f }) s

/-- The photo with a number (R27). -/
def findPhoto (s : State) (n : Nat) : Option Photo := s.photos.find? fun p => decide (p.number = n)

/-- A change of the photo with a number. -/
def modifyPhoto (n : Nat) (f : Photo → Photo) (s : State) : State :=
  { s with photos := s.photos.map fun p => if p.number = n then f p else p }

/-- All plates of an edition, whatever their place in their stacks. -/
def Edition.plates (e : Edition) : List Plate := e.pages.flatMap (·.plates)

/-- Page numbers join the map in ascending order (R3). -/
def insertSlot (x : PageSlot) : List PageSlot → List PageSlot
  | [] => [x]
  | p :: l => if x.page < p.page then x :: p :: l else p :: insertSlot x l

/-- An edition is CLOSING (R4). -/
def Edition.isClosing (e : Edition) : Bool :=
  match e.state with
  | .closing _ _ => true
  | _ => false

/-! ### References (R19) -/

/-- The byte that stands for LATEST (R198). -/
def latest : Nat := 255

/-- What resolving a plate reference finds. -/
structure Resolved where
  edition : Edition
  slot : PageSlot
  ref : PlateRef
  plate : Plate

/-- The highest plate number from `n` down whose plate is STORED (R19, step 5). -/
def latestStored (p : PageSlot) : Nat → Option Nat
  | 0 => none
  | n + 1 =>
    match p.plate (n + 1) with
    | some x => if x.state = .stored then some (n + 1) else latestStored p n
    | none => latestStored p n

/-- A plate number, or LATEST, on a page (R19, steps 3 to 5). -/
def plateNumber (p : PageSlot) (n : Nat) : Except Reason Nat :=
  if n = latest then
    match latestStored p p.plates.length with
    | some k => .ok k
    | none => .error .noSuch
  else if n = 0 then .error .outOfRange
  else if p.plates.length < n then .error .noSuch
  else .ok n

/-- A plate reference resolved when the request is taken (R19). -/
def resolve (s : State) (r : PlateReq) : Except Reason Resolved :=
  match findEdition s r.day r.index with
  | none => .error .noSuch
  | some e =>
    match e.slot r.page with
    | none => .error .noSuch
    | some p =>
      match plateNumber p r.plate with
      | .error x => .error x
      | .ok n =>
        match p.plate n with
        | none => .error .noSuch
        | some x => .ok ⟨e, p, ⟨r.day, r.index, r.page, n⟩, x⟩

/-- A reference that must give a plate number: LATEST is MALFORMED before the rest is resolved (R19, R48,
R58). (Log 17.) -/
def resolveNumbered (s : State) (r : PlateReq) : Except Reason Resolved :=
  if r.plate = latest then .error .malformed else resolve s r

/-! ### Holds -/

/-- An item neither COLLECTED nor CANCELLED (R18). -/
def ItemRec.live (i : ItemRec) : Bool :=
  match i.state with
  | .collected => false
  | .cancelled _ => false
  | _ => true

/-- The items of all open orders. -/
def openItems (s : State) : List ItemRec := s.orders.flatMap (·.items)

/-- Live items whose subject is x. -/
def itemHolds (s : State) (x : Subject) : Nat :=
  (openItems s).countP fun i => i.live && decide (i.subject = x)

/-- Tickets whose subject is x, for either copy. -/
def ticketHolds (s : State) (x : Subject) : Nat := s.tickets.countP fun t => decide (t.subject = x)

/-- Jobs on a plate. -/
def jobHolds (s : State) (r : PlateRef) : Nat := s.jobs.countP fun j => decide (j.plate = r)

/-- A plate's hold count (R18). -/
def plateHold (s : State) (r : PlateRef) : Nat :=
  ticketHolds s (.plate r) + jobHolds s r + itemHolds s (.plate r)

/-- A photo's hold count (R30). -/
def photoHold (s : State) (n : Nat) : Nat := ticketHolds s (.photo n) + itemHolds s (.photo n)

/-- The profile of a plate's present restored copy. -/
def presentProfile (s : State) (r : PlateRef) : Option Nat :=
  (findPlate s r).bind fun p => p.restored.map (·.profile)

/-- A plate's copy hold count: RESTORED tickets, and live items bound to the present copy's profile (R18). -/
def copyHold (s : State) (r : PlateRef) : Nat :=
  match presentProfile s r with
  | none => 0
  | some q =>
    (s.tickets.countP fun t => decide (t.subject = .plate r) && decide (t.copy = .restored))
      + (openItems s).countP fun i =>
          i.live && decide (i.subject = .plate r) && decide (i.bound = .restored q)

/-- A binding to a restored copy of a profile other than q. -/
def Bound.against (q : Nat) : Bound → Bool
  | .original => false
  | .restored p => decide (p ≠ q)

/-- The binding test (R116, step 8); `earlier` are the items of the same order that stand earlier (R149). -/
def boundAgainst (s : State) (r : PlateRef) (q : Nat) (earlier : List (Subject × Bound)) : Bool :=
  (s.tickets.any fun t => decide (t.subject = .plate r) && decide (t.copy = .restored)
      && decide (presentProfile s r ≠ some q))
    || ((openItems s).any fun i => i.live && decide (i.subject = .plate r) && i.bound.against q)
    || earlier.any fun x => decide (x.1 = .plate r) && x.2.against q

/-! ### Accounts, orders, jobs, tickets by number -/

def findAccount (s : State) (n : Nat) : Option Account := s.accounts.find? fun a => decide (a.number = n)

def modifyAccount (n : Nat) (f : Account → Account) (s : State) : State :=
  { s with accounts := s.accounts.map fun a => if a.number = n then f a else a }

/-- Available funds: balance + credit limit − reserved (R180). -/
def Account.available (a : Account) : Int := a.balance + a.limit - a.reserved

def findOrder (s : State) (o : Nat) : Option OrderRec := s.orders.find? fun x => decide (x.number = o)

def modifyOrder (o : Nat) (f : OrderRec → OrderRec) (s : State) : State :=
  { s with orders := s.orders.map fun x => if x.number = o then f x else x }

/-- The item with a number from 1. -/
def OrderRec.item (x : OrderRec) (i : Nat) : Option ItemRec := if i = 0 then none else x.items[i - 1]?

def findItem (s : State) (o i : Nat) : Option ItemRec := (findOrder s o).bind fun x => x.item i

def modifyItem (o i : Nat) (f : ItemRec → ItemRec) (s : State) : State :=
  modifyOrder o (fun x => { x with items := x.items.modify (i - 1) f }) s

def findJob (s : State) (n : Nat) : Option Job := s.jobs.find? fun j => decide (j.number = n)

def modifyJob (n : Nat) (f : Job → Job) (s : State) : State :=
  { s with jobs := s.jobs.map fun j => if j.number = n then f j else j }

/-- The job naming a plate; at most one does (R114). -/
def jobOn (s : State) (r : PlateRef) : Option Job := s.jobs.find? fun j => decide (j.plate = r)

/-- Queue order: DESK, ORDER, ROUTINE, and within each by arrival (R115). -/
def queueOrder (s : State) : List Job :=
  (s.jobs.filter fun j => decide (j.priority = .desk)) ++ (s.jobs.filter fun j => decide (j.priority = .order))
    ++ s.jobs.filter fun j => decide (j.priority = .routine)

def findTicket (s : State) (n : Nat) : Option Ticket := s.tickets.find? fun t => decide (t.number = n)

def modifyTicket (n : Nat) (f : Ticket → Ticket) (s : State) : State :=
  { s with tickets := s.tickets.map fun t => if t.number = n then f t else t }

/-- The number after n, and 1 after 255 (R97). -/
def numberAfter (n : Nat) : Nat := n % 255 + 1

/-- The first number from `n` on, counting on from 255 to 1, that is not in use (R97). -/
def freeNumberFrom : Nat → Nat → List Nat → Nat
  | 0, n, _ => n
  | k + 1, n, used => if n ∈ used then freeNumberFrom k (numberAfter n) used else n

/-- The number given when `next` is the next number (R97). -/
def freeNumber (next : Nat) (used : List Nat) : Nat := freeNumberFrom 255 next used

end Sys2Proof.Machine
end

