-- ==== Sys2Proof/Machine/Staging.lean ====
section
/-! DEFINITION. The Staging Pool (R92, R93): which slabs are held, grants and returns, and what the slabs hold. -/

namespace Sys2Proof.Machine

/-! ### Grants (R93) -/

/-- Slabs of staging, or extents of a unit, that n bytes take. -/
def slabsFor (n : Nat) : Nat := (n + 65535) / 65536

/-- Slabs a holder bound by the deposit reserve could take now (R93, R108). -/
def roomUnderReserve (s : State) : Nat := s.free - Config.depositReserve

/-- The pool can grant n slabs to a holder bound by the reserve (R93). -/
def canGrant (s : State) (n : Nat) : Bool := decide (n + Config.depositReserve ≤ s.free)

/-- The slabs that receive slots, commit entries, tickets, jobs and order items have (R92). -/
def heldSlabs (s : State) : List Nat :=
  (s.slots.flatMap fun x => (x.map (·.slabs)).getD []) ++ s.queue.flatMap (·.slabs) ++ s.tickets.flatMap (·.slabs)
    ++ s.jobs.flatMap (fun j => j.inputSlabs ++ j.outputSlabs) ++ (openItems s).flatMap (·.slabs)

/-- The slabs no holder has. -/
def freeSlabs (s : State) : List Nat := (List.range Config.slabTotal).filter fun k => decide (k ∉ heldSlabs s)

/-- `n` members of a list, chosen one after another by `pick` among those not yet chosen. -/
def pickSlabs (pick : Nat → Nat) : Nat → List Nat → List Nat
  | 0, _ => []
  | n + 1, l =>
    let k := l.getD (pick n % l.length) 0
    k :: pickSlabs pick n (l.erase k)

/-- The slabs a grant of n gives: free ones, which of them is a free value (R93). (Log 12.) -/
def grantedSlabs (n : Nat) (s : State) : List Nat := pickSlabs (Config.slabPick s.freeCount) n (freeSlabs s)

/-- A grant of n slabs lowers the free count by n (R93); the free value it used is counted. -/
def takeSlabs (n : Nat) (s : State) : State := { s with free := s.free - n, freeCount := s.freeCount + 1 }

/-- A holder's slabs return to the pool, their contents as they are (R92). -/
def returnSlabs (l : List Nat) (s : State) : State := { s with free := s.free + l.length }

/-! ### Contents (R92) -/

/-- Bytes of a slab. -/
def slabBytes : Nat := 65536

/-- `b` written over `old` from byte p on, p being at most what has been written. -/
def overlay (p : Nat) (b old : List Byte) : List Byte := old.take p ++ b ++ old.drop (p + b.length)

/-- Bytes written into slab k from its byte p on; the list stays in ascending slab number. -/
def writeSlab (k p : Nat) (b : List Byte) : List SlabContent → List SlabContent
  | [] => if b = [] then [] else [⟨k, b⟩]
  | x :: m =>
    if b = [] then x :: m
    else if k < x.slab then ⟨k, b⟩ :: x :: m
    else if k = x.slab then ⟨k, overlay p b x.bytes⟩ :: m
    else x :: writeSlab k p b m

/-- Bytes written into a holder's slabs, from byte p of what the slabs together hold on. -/
def writeHolder : List Nat → Nat → List Byte → List SlabContent → List SlabContent
  | [], _, _, m => m
  | k :: rest, p, b, m =>
    if p < slabBytes then writeHolder rest 0 (b.drop (slabBytes - p)) (writeSlab k p (b.take (slabBytes - p)) m)
    else writeHolder rest (p - slabBytes) b m

/-- What slab k holds from its start on, as far as it has been written. -/
def slabHolds (m : List SlabContent) (k : Nat) : List Byte :=
  ((m.find? fun x => decide (x.slab = k)).map (·.bytes)).getD []

/-- A holder writes bytes into its own slabs (R92). -/
def stage (slabs : List Nat) (p : Nat) (b : List Byte) (s : State) : State :=
  { s with staging := writeHolder slabs p b s.staging }

/-- The canonical form of the contents: ascending slab number, and no slab listed that nothing was written into. -/
abbrev StagingWf (m : List SlabContent) : Prop :=
  m.Pairwise (fun x y => x.slab < y.slab) ∧ ∀ x ∈ m, x.bytes ≠ []

end Sys2Proof.Machine
end

