-- ==== Sys2Proof/Machine/Ops.lean ====
section
/-! DEFINITION. The shared operations: taking a request and answering it, timers, extents and units, receive slots,
reads, and the small records the families change through them. -/

namespace Sys2Proof.Machine

/-! ### Taking a request and answering it (R194, R195, R196) -/

/-- A frame the part sends (R199). -/
def send (f : OutFrame) (s : State) : State := { s with linkOut := s.linkOut ++ [f] }

/-- The Link Port can take this request now: the outbound stream is IDLE, no LINK reset is due, and the request
is the oldest of the buffer; with the buffer empty the command stands for the request's arrival and its taking
at once (R194, R199, R207). (Log 2.) -/
abbrev Takes (c : Instr) (s : State) : Prop :=
  s.outbound = .idle ∧ s.linkResetDue = false
    ∧ (s.inputBuffer.head?.all fun f => decide (requestOf f.tag f.code f.body = c)) = true

/-- The state a taken request is acted on in: it has left the buffer (R194), and the arm is dropped (R23). -/
def taken (s : State) : State := { s with inputBuffer := s.inputBuffer.tail, arm := none }

/-- The request is taken, or cannot be now. -/
def takeRequest (c : Instr) (s : State) : Option State := if Takes c s then some (taken s) else none

/-- What a request's own rule gives: a reply that changes no record, or the state it leaves with the DONE or
RETRY it sends; `none` where a delivery has begun and its DONE is still to come (R105, R160). -/
abbrev Checked := Except ReplyBody (State × Option ReplyBody)

/-- One check of a request's list: it holds, or the request is refused with the reason. -/
def ensure (b : Bool) (r : Reason) : Except ReplyBody Unit := if b then .ok () else .error (.refused r [])

/-- A refusal with the fields its rule names (R196). -/
def refuse {α : Type} (r : Reason) (fields : List Wire) : Except ReplyBody α := .error (.refused r fields)

/-- A lookup a request is refused for when it finds nothing. -/
def lookup {α : Type} (o : Option α) (r : Reason) : Except ReplyBody α :=
  match o with
  | some a => .ok a
  | none => .error (.refused r [])

/-- A reference resolved, its failure a refusal. -/
def resolved (x : Except Reason Resolved) : Except ReplyBody Resolved :=
  match x with
  | .ok a => .ok a
  | .error r => .error (.refused r [])

/-- DONE with these results, the state as it stands after the request. -/
def done (s : State) (fields : List Wire) : Checked := .ok (s, some (.done fields))

/-- The reply leaves with the request's tag (R190). -/
def answer (tag : Nat) (s : State) : Checked → State
  | .error b => send (.reply tag b) s
  | .ok (t, some b) => send (.reply tag b) t
  | .ok (t, none) => t

/-- A request's course: taken or not possible now; RETRY STARTING; MALFORMED for a body that does not fit; then
its own rule (R195). -/
def request {α : Type} (c : Instr) (r : Taken α) (act : α → State → Checked) (s : State) : State :=
  match takeRequest c s with
  | none => s
  | some t =>
    if t.part = .starting then send (.reply r.tag (.retry .starting .none [])) t
    else
      match r.body with
      | none => send (.reply r.tag (.refused .malformed [])) t
      | some f => answer r.tag t (act f t)

/-! ### Timers (R210) -/

/-- Ticks passed since a timer started, modulo the wrap (R210). -/
def elapsed (s : State) (start : Tick) : Nat := (s.timeBase - start).toNat

/-- A running timer of this many seconds has come to its expiry (R210). (Log 21.) -/
def due (s : State) (seconds : Nat) (start : Tick) : Bool := decide (100 * seconds ≤ elapsed s start)

/-- Ticks left before a timer expires. -/
def ticksLeft (s : State) (seconds : Nat) (start : Tick) : Nat := 100 * seconds - elapsed s start

/-- Deposit stall timer, seconds (R53, R210). -/
def stallSeconds : Nat := 20
/-- Ticket collect timer, seconds (R103, R210). -/
def ticketSeconds : Nat := 30
/-- Item collect timer, seconds (R157, R210). -/
def itemSeconds : Nat := 300
/-- Close timer, seconds (R61, R210). -/
def closeSeconds : Nat := 120
/-- Suppression arm timer, seconds (R22, R210). -/
def armSeconds : Nat := 10
/-- Start-up write hold, seconds (R220, R210). -/
def holdSeconds : Nat := 2

/-! ### Commit-queue places (R45) -/

/-- Places reserved: one for each BOUND slot. -/
def reservedPlaces (s : State) : Nat := s.slots.countP (·.isSome)

/-- Places neither held by an entry nor reserved. -/
def freePlaces (s : State) : Nat := Config.commitPlaces - s.queue.length - reservedPlaces s

/-! ### Units and extents (R67, R74) -/

def unitAt (s : State) (u : Nat) : UnitRec := s.units.getD u absentUnit

def modifyUnit (u : Nat) (f : UnitRec → UnitRec) (s : State) : State := { s with units := s.units.modify u f }

/-- A message leaves for a unit (R72). -/
def tell (m : ChainMsg) (s : State) : State := { s with chainOut := s.chainOut ++ [m] }

/-- Extents of content return to their unit, which is sent the release; at an ABSENT position nothing
changes (R74). -/
def returnExtents (l : Location) (n : Nat) (s : State) : State :=
  if (unitAt s l.unit).state = .absent then s
  else tell (.release l.unit l.start n) (modifyUnit l.unit (fun x => { x with free := x.free + n }) s)

/-- A FAULTED or ABSENT unit: reads aimed at it fail at once (R89). -/
def UnitState.unreadable : UnitState → Bool
  | .absent => true
  | .faulted => true
  | _ => false

/-- An operation is sent to a unit under the next number, with the limit in force (R72, R73). (Log 30.) -/
def sendOperation (u : Nat) (w : Work) (s : State) : State :=
  { modifyUnit u (fun x => { x with op := some ⟨s.opCount, w, s.timeBase, s.commitLimit⟩ }) s with
    opCount := s.opCount + 1 }

/-- The work outstanding at a unit under a number (R72); any other number is that of an operation that has ended.
(Log 30.) -/
def outstanding (s : State) (u op : Nat) : Option Work :=
  ((unitAt s u).op.filter fun x => decide (x.number = op)).map (·.work)

/-- The unit becomes IDLE. -/
def endOperation (u : Nat) (s : State) : State := modifyUnit u (fun x => { x with op := none }) s

/-- An operation that ended OK sets the unit's consecutive failures to 0 (R75). -/
def clearFailures (u : Nat) (s : State) : State := modifyUnit u (fun x => { x with failures := 0 }) s

/-! ### Content records -/

/-- A record's content state becomes st. -/
def setContent (x : Subject) (st : ContentState) (s : State) : State :=
  match x with
  | .plate r => modifyPlate r (fun p => { p with state := st }) s
  | .photo n => modifyPhoto n (fun p => { p with state := st }) s

/-- A record becomes STORED at a location (R83). -/
def setStored (x : Subject) (l : Location) (s : State) : State :=
  match x with
  | .plate r => modifyPlate r (fun p => { p with state := .stored, location := some l }) s
  | .photo n => modifyPhoto n (fun p => { p with state := .stored, location := some l }) s

/-- Read faults rise by 1 and stop at 255 (R17, R29). -/
def raiseFaults (x : Subject) (s : State) : State :=
  match x with
  | .plate r => modifyPlate r (fun p => { p with readFaults := min 255 (p.readFaults + 1) }) s
  | .photo n => modifyPhoto n (fun p => { p with readFaults := min 255 (p.readFaults + 1) }) s

/-- Use counts of the photos in a list rise by 1 (R34). -/
def addUses (l : List Nat) (s : State) : State :=
  { s with photos := s.photos.map fun p => if p.number ∈ l then { p with useCount := p.useCount + 1 } else p }

/-- Use counts of the photos in a list fall by 1 (R34). -/
def dropUses (l : List Nat) (s : State) : State :=
  { s with photos := s.photos.map fun p => if p.number ∈ l then { p with useCount := p.useCount - 1 } else p }

/-- The commit entry of a subject: at most one (R45). -/
def findEntry (s : State) (x : EntrySubject) : Option Entry := s.queue.find? fun e => decide (e.subject = x)

def modifyEntry (x : EntrySubject) (f : Entry → Entry) (s : State) : State :=
  { s with queue := s.queue.map fun e => if e.subject = x then f e else e }

/-- The entry leaves the queue; its place is free and its slabs return (R83, R84). -/
def removeEntry (x : EntrySubject) (s : State) : State :=
  match findEntry s x with
  | none => s
  | some e => returnSlabs e.slabs { s with queue := s.queue.filter fun e => decide (e.subject ≠ x) }

def Subject.entry : Subject → EntrySubject
  | .plate r => .plate r
  | .photo n => .photo n

/-! ### Receive slots (R43, R44) -/

def slotAt (s : State) (k : Nat) : Option Slot := (s.slots[k]?).join

def setSlot (k : Nat) (x : Option Slot) (s : State) : State := { s with slots := s.slots.set k x }

/-- The lowest-numbered FREE slot (R44). -/
def freeSlot (s : State) : Option Nat := s.slots.findIdx? (·.isNone)

/-- The last three tests of a deposit request, and the slot it will bind (R44). -/
def slotTests (size : Nat) (s : State) : Except ReplyBody Nat := do
  let k ← (match freeSlot s with
    | some k => .ok k
    | none => .error (.retry .noSlot .none []))
  ensure (decide (0 < freePlaces s)) .queueFull
  ensure (decide (slabsFor size ≤ s.free)) .stagingFull
  return k

/-- The slot is bound: slabs taken, a place reserved, count 0, mark clear, CRC and stall timer started (R44). -/
def bindSlot (k : Nat) (x : Subject) (kind : SlotKind) (size : Nat) (check : Check) (s : State) : State :=
  setSlot k (some ⟨x, kind, size, check, [], false, crc32Start, grantedSlabs (slabsFor size) s, s.timeBase⟩)
    (takeSlabs (slabsFor size) s)

/-- The slot becomes FREE; its slabs return and its reserved place is free (R53, R56). -/
def releaseSlot (k : Nat) (s : State) : State :=
  match slotAt s k with
  | none => s
  | some x => returnSlabs x.slabs (setSlot k none s)

/-- The slot bound to a record. -/
def slotOf (s : State) (x : Subject) : Option Nat :=
  s.slots.findIdx? fun o => o.any fun y => decide (y.record = x)

/-- The slot bound to a record is released. -/
def releaseSlotOf (x : Subject) (s : State) : State :=
  match slotOf s x with
  | none => s
  | some k => releaseSlot k s

/-! ### Removal of a plate (R10) -/

/-- What the removed plate held is given back, by its state (R10). -/
def giveBackPlate (r : PlateRef) (p : Plate) (s : State) : State :=
  match p.state with
  | .receiving => releaseSlotOf (.plate r) s
  | .queued => removeEntry (.plate r) s
  | .stored =>
    let s := match p.location with
      | some l => returnExtents l (slabsFor p.size) s
      | none => s
    match p.restored with
    | some c => returnExtents c.loc (slabsFor c.size) s
    | none => s
  | _ => s

/-- The top plate leaves a page's stack, and the page slot goes with its last plate (R3, R10). -/
def popPlate (page : Nat) (e : Edition) : Edition :=
  { e with
    pages := (e.pages.map fun p => if p.page = page then { p with plates := p.plates.dropLast } else p).filter
      fun p => decide (p.page ≠ page) || !p.plates.isEmpty }

/-- A removal of the top plate (R10). -/
def removePlate (r : PlateRef) (p : Plate) (s : State) : State :=
  modifyEdition r.day r.index (popPlate r.page) (dropUses p.photos (giveBackPlate r p s))

/-! ### Reads (R88, R91) -/

/-- Tickets' reads are class 1, the others class 3 (R76). -/
def Owner.cls : Owner → Nat
  | .ticket _ => 1
  | _ => 3

/-- The location, size and check of a copy (R88). -/
def copySource (s : State) (x : Subject) : Copy → Option CopySource
  | .original =>
    match x with
    | .plate r => (findPlate s r).bind fun p => p.location.map fun l => ⟨l, p.size, p.check⟩
    | .photo n => (findPhoto s n).bind fun p => p.location.map fun l => ⟨l, p.size, p.check⟩
  | .restored =>
    match x with
    | .plate r => (findPlate s r).bind fun p => p.restored.map fun c => ⟨c.loc, c.size, c.check⟩
    | .photo _ => none

/-- The read of a copy for an owner (R88). -/
def readOf (o : Owner) (x : Subject) (c : Copy) (src : CopySource) : Read :=
  ⟨o, x, c, src.loc.unit, src.loc.start, slabsFor src.size, src.size, src.check⟩

/-- A read joins the end of its class's creation order (R76). -/
def addRead (r : Read) (s : State) : State := { s with reads := s.reads ++ [r] }

/-- A unit's operation loses its owner when it is that owner's read (R91). -/
def UnitRec.orphan (o : Owner) (x : UnitRec) : UnitRec :=
  match x.op with
  | some ⟨n, .read r t _, at_, lim⟩ => if r.owner = o then { x with op := some ⟨n, .read r t false, at_, lim⟩ } else x
  | _ => x

/-- The owner of a read ends: a waiting read leaves its order, one sent runs on without an owner (R91). -/
def endReads (o : Owner) (s : State) : State :=
  { s with
    reads := s.reads.filter fun r => decide (r.owner ≠ o)
    units := s.units.map (UnitRec.orphan o) }

/-- The try of an owner's read outstanding at a unit (R128, R165). A read that still waits has made no try, and the manual
numbers only tries 1 and 2: that 0 is reported for it is the model's choice (log 14). -/
def readTry (s : State) (o : Owner) : Nat :=
  (s.units.findSome? fun x =>
    match x.op with
    | some ⟨_, .read r t true, _, _⟩ => if r.owner = o then some t else none
    | _ => none).getD 0

/-- A ticket leaves the table: its slabs return and its read ends (R104, R106, R107). -/
def freeTicket (t : Ticket) (s : State) : State :=
  returnSlabs t.slabs
    (endReads (.ticket t.number) { s with tickets := s.tickets.filter fun x => decide (x.number ≠ t.number) })

/-- All tickets on a subject are freed (R25, R37). -/
def freeTicketsOn (x : Subject) (s : State) : State :=
  (s.tickets.filter fun t => decide (t.subject = x)).foldl (fun s t => freeTicket t s) s

/-! ### Jobs (R114) -/

/-- A job's record leaves the queue: its slabs return, the Repair Engine it held is free, its read ends
(R125, R126). -/
def endJob (j : Job) (s : State) : State :=
  let s := returnSlabs (j.inputSlabs ++ j.outputSlabs) (endReads (.job j.number) s)
  { s with
    jobs := s.jobs.filter fun x => decide (x.number ≠ j.number)
    engine := if s.engine.any (fun w => decide (w.job = j.number)) then none else s.engine }

/-- Why JOB-FAILED is raised, numbered as R125, R126 and R127 list the reasons. -/
inductive JobEnd where
  | readFailed
  | commitFailed
  | cancelled
  | suppressed
  | orderCancelled
deriving DecidableEq, Repr

def JobEnd.code : JobEnd → Nat
  | .readFailed => 1
  | .commitFailed => 2
  | .cancelled => 3
  | .suppressed => 4
  | .orderCancelled => 5

/-- Notice JOB-FAILED (R125). -/
def raiseJobFailed (j : Job) (why : JobEnd) (items : Nat) (s : State) : State :=
  raise .jobFailed (.job j.number) (Subject.wire (.plate j.plate) ++ [.u8 j.profile, .u8 why.code, .u16 items]) s

/-- A new job at the end of the queue, WAITING (R117, R118). -/
def newJob (n : Nat) (r : PlateRef) (profile : Nat) (prio : Priority) (creator : Option (Nat × Nat))
    (host : Bool) (items : List (Nat × Nat)) : Job :=
  ⟨n, r, profile, prio, .waiting, creator, host, items, false, none, 0, 0, 0, 0, 0, [], [], [], [], none, none⟩

/-- The job joins the queue with the next job number (R115). -/
def addJob (r : PlateRef) (profile : Nat) (prio : Priority) (creator : Option (Nat × Nat)) (host : Bool)
    (items : List (Nat × Nat)) (s : State) : Nat × State :=
  let n := freeNumber s.nextJob (s.jobs.map (·.number))
  (n, { s with jobs := s.jobs ++ [newJob n r profile prio creator host items], nextJob := numberAfter n })

/-- Today, for the tests that read it; every embargo test finds the date SET (R211). -/
def today (s : State) : Nat := (s.date.map (·.today)).getD 0

/-- A photo is under embargo on a day when its embargo day is later (R36). -/
def Photo.embargoed (p : Photo) (day : Nat) : Bool := p.embargo.any fun e => decide (day < e)

/-! ### Deliveries (R105, R160) -/

/-- The DATA-OUT frames of some content from an offset on, 4,096 bytes each (R105). The first argument is
how many frames there are. -/
def dataFrames : Nat → Nat → Nat → List Byte → List OutFrame
  | 0, _, _, _ => []
  | n + 1, tag, offset, b =>
    .dataOut tag offset (b.take 4096) :: dataFrames n tag (offset + 4096) (b.drop 4096)

/-- The frames of a delivery: the content in ascending order of offset, then DONE (R105). -/
def deliveryFrames (tag : Nat) (b : List Byte) (fields : List Wire) : List OutFrame :=
  dataFrames ((b.length + 4095) / 4096) tag 0 b ++ [.reply tag (.done fields)]

/-- A plate's tiles, width × height (R114). -/
def Plate.tileCount (p : Plate) : Nat :=
  match p.tiles with
  | some (w, h) => w * h
  | none => 0

end Sys2Proof.Machine
end

