-- ==== Sys2Proof/Machine/Pricing.lean ====
section
/-! DEFINITION. The Tariff Unit's arithmetic: age, surcharge, item fees, the reservation and the charge, and
settlement with its division of rights fees (R167 to R179). -/

namespace Sys2Proof.Machine

/-- The tariff line of a product (R167). -/
def Tariff.line (t : Tariff) : Product → TariffLine
  | .pagePrint => t.pagePrint
  | .pageFile => t.pageFile
  | .photoPrint => t.photoPrint
  | .photoFile => t.photoFile

/-- One tariff line replaced (R168). -/
def Tariff.setLine (t : Tariff) (p : Product) (l : TariffLine) : Tariff :=
  match p with
  | .pagePrint => { t with pagePrint := l }
  | .pageFile => { t with pageFile := l }
  | .photoPrint => { t with photoPrint := l }
  | .photoFile => { t with photoFile := l }

/-- A line with its values clamped (R168). -/
def clampLine (base ageRate tileRate cap : Nat) : TariffLine :=
  ⟨min base 1000000, min ageRate 100, min tileRate 500, min cap 1000000⟩

/-- Whole years of age, at most 100 (R170). -/
def ageYears (today subject : Nat) : Nat := min 100 ((today - subject) / 365)

/-- The age surcharge (R171). -/
def Snapshot.surcharge (x : Snapshot) : Nat := min (3 * x.base) (x.base * x.ageYears * x.ageRate / 1000)

/-- Restoration as the reservation counts it (R172). -/
def ItemRec.reservedRestoration (i : ItemRec) : Nat := if i.toBeMade then i.snapshot.cap else 0

/-- Restoration as the charge counts it (R172). -/
def ItemRec.chargedRestoration (i : ItemRec) : Nat :=
  if i.causedRepair then min i.snapshot.cap (i.copyTiles.getD 0 * i.snapshot.tileRate) else 0

/-- Base, surcharge and restoration: the part of an item's fee the discount reaches (R173, R174). -/
def ItemRec.ownPart (i : ItemRec) (restoration : Nat) : Nat := i.snapshot.base + i.snapshot.surcharge + restoration

/-- The discount on a non-rights total (R174). -/
def discountOn (n d : Nat) : Nat := (n * d + 500) / 1000

/-- The price N + R − discount (R174). -/
def price (n r d : Nat) : Nat := n + r - discountOn n d

/-- The reservation: the price over all items by their reservation values (R174). -/
def reservationOf (items : List ItemRec) (d : Nat) : Nat :=
  price (items.map fun i => i.ownPart i.reservedRestoration).sum (items.map (·.snapshot.fee)).sum d

def ItemRec.isCollected (i : ItemRec) : Bool := decide (i.state = .collected)

/-- The charge: the price over the COLLECTED items by their settlement values (R174). -/
def chargeOf (items : List ItemRec) (d : Nat) : Nat :=
  let c := items.filter ItemRec.isCollected
  price (c.map fun i => i.ownPart i.chargedRestoration).sum (c.map (·.snapshot.fee)).sum d

/-- What a collected photo item's fee accrues to its holder: nothing for holder 0 (R178). -/
def Snapshot.accrual (x : Snapshot) : Nat := if x.holder = 0 then 0 else x.fee * x.share / 100

/-- The photo products (R178: page items carry no fee). -/
def Product.isPhoto : Product → Bool
  | .photoPrint => true
  | .photoFile => true
  | _ => false

/-- The fee of one collected item divided: its holder's accrued rises (R178). -/
def accrueItem (holders : List HolderRec) (i : ItemRec) : List HolderRec :=
  holders.modify i.snapshot.holder fun h => { h with accrued := h.accrued + i.snapshot.accrual }

/-- What settling an order comes to. -/
structure Settlement where
  order : Nat
  charge : Nat
  collected : Nat
  cancelled : Nat
deriving DecidableEq, Repr

/-- The order's figures at settlement. -/
def OrderRec.settlement (o : OrderRec) : Settlement :=
  ⟨o.number, chargeOf o.items o.discount, o.items.countP ItemRec.isCollected,
    o.items.length - o.items.countP ItemRec.isCollected⟩

/-- The revenue counters after a settlement (R179). -/
def Revenue.settle (r : Revenue) (charge rights accruals : Nat) : Revenue :=
  ⟨r.orders + 1, r.charges + charge, r.rights + rights, r.accruals + accruals,
    r.houseRights + (rights - accruals), r.houseRevenue + (charge - accruals)⟩

/-- Settlement (R177): charge, reservation released, rights divided, counters raised; ORDER-SETTLED; the order
leaves the book (R164). R164 names the order number as the subject, and R198 lists no subject kind for an order alone:
that it goes as an order item with item number 0 is the model's choice (log 14). -/
def settleOrder (o : OrderRec) (s : State) : State :=
  let x := o.settlement
  let sold := o.items.filter fun i => i.isCollected && i.product.isPhoto
  let s := modifyAccount o.account
    (fun a => { a with balance := a.balance - x.charge, reserved := a.reserved - o.reservation }) s
  let s := { s with
    holders := sold.foldl accrueItem s.holders
    revenue := s.revenue.settle x.charge (sold.map (·.snapshot.fee)).sum (sold.map (·.snapshot.accrual)).sum
    orders := s.orders.filter fun y => decide (y.number ≠ o.number) }
  raise .orderSettled (.item o.number 0) [.u8 o.account, .u32 x.charge, .u16 x.collected, .u16 x.cancelled] s

end Sys2Proof.Machine
end

