-- ==== Sys2Proof/Machine/Cascade.lean ====
section
/-! DEFINITION. What one event lets go on inside the same step: item chains (R152 to R158), cancellations
(R162), reads that fail at once (R89), and the stages of jobs (R119 to R125). A step hands `drain` its tasks; each
task changes the state and may give further tasks, which are done before the next it was handed; when none is left,
what the rules say happens "each time" slabs, places, the engine or a record come free is done in the order of
`followUp`. (Log 9, 10, 25.) -/

namespace Sys2Proof.Machine

/-- One piece of work inside a step. -/
inductive Task where
  | cancel (order item : Nat) (reason : CancelReason)
  | activate (order : Nat)
  | workItem (order item : Nat)
  | goFetch (order item : Nat)
  | askSlabs
  | examineWaiting
  | failAtOnce (owner : Owner)
  | failJob (job : Nat) (why : JobEnd) (reason : CancelReason)
  | startRepair (job : Nat)
  | claimPlace (job : Nat)
  | install (job : Nat)
  | rework (order item : Nat)
  | returnItems (order : Nat) (items : List Nat)
deriving DecidableEq, Repr

/-! ### Items -/

def setItemState (o i : Nat) (st : ItemState) (s : State) : State :=
  modifyItem o i (fun x => { x with state := st }) s

/-- An item leaves its order's turn list (R152). -/
def leaveTurn (o i : Nat) (s : State) : State :=
  modifyOrder o (fun x => { x with turn := x.turn.filter fun k => decide (k ≠ i) }) s

/-- The item is the active one of its order (R152). -/
def isActive (s : State) (o i : Nat) : Bool := (findOrder s o).any fun x => decide (x.turn.head? = some i)

/-- An item leaves the waiting list of its job; a job left with an empty list and no host interest is
cancelled, unless it is COMMITTING (R127, R162). -/
def leaveJob (o i n : Nat) (s : State) : State :=
  let s := modifyJob n (fun j => { j with waiting := j.waiting.filter fun x => decide (x ≠ (o, i)) }) s
  match findJob s n with
  | none => s
  | some j =>
    if j.waiting = [] ∧ j.hostInterest = false ∧ j.state ≠ .committing then
      raiseJobFailed j .orderCancelled 0 (endJob j s)
    else s

/-- What an item holds is given up, by its state (R162). -/
def giveUp (o i : Nat) (it : ItemRec) (s : State) : State :=
  match it.state with
  | .pending => { s with slabWait := s.slabWait.filter fun x => decide (x ≠ (o, i)) }
  | .waitRestore none => { s with restoreWait := s.restoreWait.filter fun x => decide (x ≠ (o, i)) }
  | .waitRestore (some n) => leaveJob o i n s
  | .fetching => returnSlabs it.slabs (endReads (.item o i) s)
  | .ready _ => returnSlabs it.slabs s
  | _ => s

/-- An item's record once it is done, its slabs given back (R146). -/
def ItemRec.finish (st : ItemState) (it : ItemRec) : ItemRec := { it with state := st, slabs := [], content := [] }

/-- Every item of the order is COLLECTED or CANCELLED (R164). -/
def OrderRec.isDone (x : OrderRec) : Bool := x.items.all fun i => !i.live

/-- The order settles when its last item is done (R164). -/
def settleIfDone (o : Nat) (s : State) : State :=
  match findOrder s o with
  | none => s
  | some x => if x.isDone then settleOrder x s else s

/-- ITEM-CANCELLED, for every reason but ORDER-CANCELLED (R162). -/
def raiseItemCancelled (o i : Nat) (reason : CancelReason) (s : State) : State :=
  if reason = .orderCancelled then s else raise .itemCancelled (.item o i) [.u8 reason.code] s

/-- An item is cancelled (R162); one already COLLECTED or CANCELLED is left as it is. -/
def cancelItem (o i : Nat) (reason : CancelReason) (s : State) : State × List Task :=
  match findItem s o i with
  | none => (s, [])
  | some it =>
    if it.live = false then (s, [])
    else
      let t := leaveTurn o i (giveUp o i it s)
      let t := raiseItemCancelled o i reason (modifyItem o i (ItemRec.finish (.cancelled reason)) t)
      (settleIfDone o t, if isActive s o i then [.activate o] else [])

/-- A photo under embargo today, for an item that has not passed its test (R36, R153). -/
def embargoStops (s : State) (it : ItemRec) : Bool :=
  match it.subject with
  | .photo n => !it.embargoPassed && (findPhoto s n).any fun p => p.embargoed (today s)
  | .plate _ => false

/-- The embargo passed mark of a photo item is set (R153). -/
def passEmbargo (it : ItemRec) : ItemRec :=
  match it.subject with
  | .photo _ => { it with embargoPassed := true }
  | .plate _ => it

/-- The first member of an order's turn list becomes active (R153, step 1). -/
def activateOrder (o : Nat) (s : State) : State × List Task :=
  match findOrder s o with
  | none => (s, [])
  | some x =>
    match x.turn with
    | [] => (s, [])
    | i :: _ =>
      match x.item i with
      | none => (s, [])
      | some it =>
        if embargoStops s it then (leaveTurn o i (setItemState o i .waitEmbargo s), [.activate o])
        else (modifyItem o i passEmbargo s, [.workItem o i])

/-- The item goes to wait in the restore-wait list with no job (R154). -/
def waitForJob (o i : Nat) (s : State) : State :=
  let s := setItemState o i (.waitRestore none) s
  { s with restoreWait := s.restoreWait ++ [(o, i)] }

/-- A ROUTINE job that an item joins is raised to ORDER (R118). -/
def Priority.joined : Priority → Priority
  | .routine => .order
  | p => p

/-- An item asks for a restored copy of profile p: JOINED, CREATED, or turned away (R118, R154). (Log 26.) -/
def askRestore (o i : Nat) (r : PlateRef) (p : Nat) (s : State) : State × List Task :=
  match jobOn s r with
  | some j =>
    if j.profile = p ∧ j.waiting.length < Config.waitingRoom then
      (setItemState o i (.waitRestore (some j.number))
        (modifyJob j.number
          (fun j => { j with waiting := j.waiting ++ [(o, i)], priority := j.priority.joined }) s),
        [.examineWaiting])
    else (waitForJob o i s, [])
  | none =>
    if s.jobs.length < Config.jobRoom then
      let y := addJob r p .order (some (o, i)) false [(o, i)] s
      (modifyItem o i (fun x => { x with state := .waitRestore (some y.1), causedRepair := true }) y.2,
        [.examineWaiting])
    else (waitForJob o i s, [])

/-- An active item worked from R153, step 2 on. -/
def workActive (o i : Nat) (s : State) : State × List Task :=
  match findItem s o i with
  | none => (s, [])
  | some it =>
    match it.subject, it.bound with
    | .plate r, .restored p =>
      if presentProfile s r = some p then (s, [.goFetch o i]) else askRestore o i r p s
    | _, _ => (s, [.goFetch o i])

/-- An item begins to wait for its slabs; alone in the list, it asks at once (R153, R156). -/
def joinSlabWait (o i : Nat) (s : State) : State × List Task :=
  let t := setItemState o i .pending s
  ({ t with slabWait := t.slabWait ++ [(o, i)] }, if s.slabWait = [] then [.askSlabs] else [])

def Bound.copy : Bound → Copy
  | .original => .original
  | .restored _ => .restored

/-- The repaired tiles of the copy an item fetches, for RESTORED items (R157). -/
def copyTilesOf (s : State) (it : ItemRec) : Option Nat :=
  match it.subject, it.bound with
  | .plate r, .restored _ => (findPlate s r).bind fun p => p.restored.map (·.repaired)
  | _, _ => none

/-- The first member of the slab-wait list, with the source of its fetch, when the pool can grant its slabs
(R156). -/
def slabHead (s : State) : Option (Nat × Nat × ItemRec × CopySource) :=
  match s.slabWait with
  | [] => none
  | (o, i) :: _ =>
    (findItem s o i).bind fun it =>
      (copySource s it.subject it.bound.copy).bind fun src =>
        if canGrant s (slabsFor src.size) then some (o, i, it, src) else none

/-- A read of a FAULTED or ABSENT unit fails at once (R89). -/
def failIfUnreadable (s : State) (o : Owner) (u : Nat) : List Task :=
  if (unitAt s u).state.unreadable then [.failAtOnce o] else []

/-- The first member of the slab-wait list asks the pool and, granted, begins its fetch (R156, R157). -/
def grantSlabs (s : State) : State × List Task :=
  match slabHead s with
  | none => (s, [])
  | some (o, i, it, src) =>
    let n := slabsFor src.size
    let t := takeSlabs n { s with slabWait := s.slabWait.tail }
    let t := modifyItem o i (fun x => { x with
      state := .fetching, slabs := grantedSlabs n s, source := some src, copyTiles := copyTilesOf s it }) t
    (addRead (readOf (.item o i) it.subject it.bound.copy src) t,
      failIfUnreadable s (.item o i) src.loc.unit ++ [.askSlabs])

/-! ### Reads that fail -/

/-- FETCH-FAILED: its subject, then the copy, the owner, the unit and the cause (R90). R90 names the copy with the
subject, whose 6 bytes have no place for it; that it is the first field of the detail is the model's choice (log 14). -/
def raiseFetchFailed (r : Read) (cause : Nat) (s : State) : State :=
  raise .fetchFailed r.subject.notice ([.u8 r.copy.code] ++ r.owner.wire ++ [.u8 r.unit, .u8 cause]) s

/-- R90's causes, in its order, and R89's after them. -/
def causeMismatch : Nat := 1
def causeError : Nat := 2
def causeExpired : Nat := 3
def causeUnavailable : Nat := 4

/-- The owner acts on the failure of its read: a ticket is freed, a job becomes FAILED, an item is CANCELLED
(R90, R104, R120, R158). -/
def ownerFailed (o : Owner) (s : State) : State × List Task :=
  match o with
  | .ticket n =>
    match findTicket s n with
    | none => (s, [])
    | some t => (freeTicket t s, [])
  | .job n => (s, [.failJob n .readFailed .restoreFailed])
  | .item o i => (s, [.cancel o i .fetchFailed])

/-- A waiting read fails with cause UNIT-UNAVAILABLE (R89). -/
def failRead (o : Owner) (s : State) : State × List Task :=
  match s.reads.find? fun r => decide (r.owner = o) with
  | none => (s, [])
  | some r =>
    ownerFailed o
      (raiseFetchFailed r causeUnavailable { s with reads := s.reads.filter fun r => decide (r.owner ≠ o) })

/-- The owners of the reads waiting that are aimed at a unit, class 1 before class 3 (R75). -/
def waitingOwners (s : State) (u : Nat) : List Owner :=
  let l := (s.reads.filter fun r => decide (r.unit = u)).map (·.owner)
  (l.filter fun o => decide (o.cls = 1)) ++ l.filter fun o => decide (o.cls ≠ 1)

/-! ### Jobs -/

/-- The items of a job that ends leave its waiting list; they wait for no job (R162). -/
def detachItems (l : List (Nat × Nat)) (s : State) : State :=
  l.foldl (fun s x => setItemState x.1 x.2 (.waitRestore none) s) s

/-- A job ends without a copy: its record leaves, JOB-FAILED is raised, and its waiting items are cancelled
in join order (R125, R126). -/
def failJobNow (n : Nat) (why : JobEnd) (reason : CancelReason) (s : State) : State × List Task :=
  match findJob s n with
  | none => (s, [])
  | some j =>
    (raiseJobFailed j why j.waiting.length (detachItems j.waiting (endJob j s)),
      j.waiting.map fun x => .cancel x.1 x.2 reason)

/-- The first WAITING job in queue order, with its plate's source, when no job is FETCHING and the pool can
grant its slabs (R119). -/
def waitingHead (s : State) : Option (Job × CopySource) :=
  if s.jobs.any fun j => decide (j.state = .fetching) then none
  else
    ((queueOrder s).find? fun j => decide (j.state = .waiting)).bind fun j =>
      (copySource s (.plate j.plate) .original).bind fun src =>
        if canGrant s (2 * slabsFor src.size) then some (j, src) else none

/-- The queue examines its first WAITING job, which enters FETCHING when it can (R119, R120). -/
def enterFetching (s : State) : State × List Task :=
  match waitingHead s with
  | none => (s, [])
  | some (j, src) =>
    let n := slabsFor src.size
    let g := grantedSlabs (2 * n) s
    let t := modifyJob j.number (fun j => { j with
      state := .fetching, landed := false, inputSlabs := g.take n, outputSlabs := g.drop n }) (takeSlabs (2 * n) s)
    (addRead (readOf (.job j.number) (.plate j.plate) .original src) t,
      failIfUnreadable s (.job j.number) src.loc.unit)

/-- A landed FETCHING job enters REPAIRING and takes its profile copy (R113, R121). -/
def enterRepairing (n : Nat) (s : State) : State :=
  let s := modifyJob n (fun j => { j with
    state := .repairing
    landed := false
    profileCopy := s.profiles[j.profile]?
    entered := s.timeBase
    tilesDone := 0, repaired := 0, flat := 0, specks := 0
    output := [] }) s
  { s with engine := some ⟨n, 0⟩ }

/-- A REPAIRED job takes a commit-queue place; its output and the slabs that hold it pass to the entry (R123). -/
def enterCommitting (n : Nat) (s : State) : State :=
  match findJob s n with
  | none => s
  | some j =>
    if freePlaces s = 0 then s else
    let c := crc32 j.output
    let s := { s with
      queue := s.queue ++ [⟨.restored n, j.outputSlabs.length, c, j.output, j.outputSlabs, 0, [], none⟩] }
    modifyJob n (fun j => { j with state := .committing, outputCheck := some c, outputSlabs := [], output := [] }) s

/-- The job's stored copy becomes the plate's restored copy, and its items go on to fetch it (R124, R155). -/
def installCopy (n : Nat) (s : State) : State × List Task :=
  match findJob s n with
  | none => (s, [])
  | some j =>
    match j.stored, findPlate s j.plate with
    | some l, some p =>
      let t := match p.restored with
        | some old => returnExtents old.loc (slabsFor old.size) s
        | none => s
      let c : RestoredCopy := ⟨l, p.size, j.profile, j.repaired, j.flat, j.specks, j.outputCheck.getD 0⟩
      let t := detachItems j.waiting (endJob j (modifyPlate j.plate (fun p => { p with restored := some c }) t))
      (raise .jobDone (.job n) (Subject.wire (.plate j.plate) ++
          [.u8 j.profile, .u16 p.tileCount, .u16 j.repaired, .u16 j.flat, .u32 j.specks, .u8 l.unit]) t,
        j.waiting.map fun x => .goFetch x.1 x.2)
    | _, _ => (s, [])

/-! ### The embargo re-check -/

/-- Items of an order that may leave WAIT-EMBARGO: all photos, or the one SET-RIGHTS named (R36). -/
def freedItems (s : State) (x : OrderRec) (only : Option Nat) : List Nat :=
  ((List.range x.items.length).map (· + 1)).filter fun i =>
    (x.item i).any fun it =>
      decide (it.state = .waitEmbargo) &&
        match it.subject with
        | .photo n => (only.all fun m => decide (m = n)) && !((findPhoto s n).any fun p => p.embargoed (today s))
        | .plate _ => false

/-- The re-check returns items of several orders in the order the orders were accepted (R36). -/
def recheck (s : State) (only : Option Nat) : List Task :=
  s.orders.filterMap fun x =>
    match freedItems s x only with
    | [] => none
    | l => some (.returnItems x.number l)

/-- Items return to PENDING and take their turn after the active item; into an empty list the first of them
becomes active (R152, R159). -/
def returnToTurn (o : Nat) (l : List Nat) (s : State) : State × List Task :=
  match findOrder s o with
  | none => (s, [])
  | some x =>
    let t := l.foldl (fun s i => modifyItem o i (fun it => { it with state := .pending, embargoPassed := true }) s) s
    match x.turn with
    | [] => (modifyOrder o (fun x => { x with turn := l }) t, [.activate o])
    | a :: rest => (modifyOrder o (fun x => { x with turn := a :: (l ++ rest) }) t, [])

/-! ### Running the tasks -/

/-- What a task does (log 9). -/
def carryOut : Task → State → State × List Task
  | .cancel o i reason, s => cancelItem o i reason s
  | .activate o, s => activateOrder o s
  | .workItem o i, s => workActive o i s
  | .goFetch o i, s => joinSlabWait o i s
  | .askSlabs, s => grantSlabs s
  | .examineWaiting, s => enterFetching s
  | .failAtOnce o, s => failRead o s
  | .failJob n why reason, s => failJobNow n why reason s
  | .startRepair n, s => (enterRepairing n s, [])
  | .claimPlace n, s => (enterCommitting n s, [])
  | .install n, s => installCopy n s
  | .rework o i, s => ({ s with restoreWait := s.restoreWait.filter fun x => decide (x ≠ (o, i)) }, [.workItem o i])
  | .returnItems o l, s => returnToTurn o l s

/-- The item is the active one of its order, and stands in neither wait list nor in a job's: its next stage is due
(R152, R153). -/
def readyToWork (s : State) (o i : Nat) : Bool :=
  isActive s o i && (findItem s o i).any fun it =>
    match it.state with
    | .pending => decide ((o, i) ∉ s.slabWait)
    | .waitRestore none => decide ((o, i) ∉ s.restoreWait)
    | _ => false

/-- The stage a task names is still to come for what it names. -/
def wanted (s : State) : Task → Bool
  | .activate o =>
    (findOrder s o).any fun x => x.turn.head?.any fun i =>
      readyToWork s o i && (x.item i).any fun it => decide (it.state = .pending)
  | .workItem o i => readyToWork s o i
  | .goFetch o i => readyToWork s o i
  | .failJob n _ _ => (findEntry s (.restored n)).isNone && (findJob s n).any fun j => j.stored.isNone
  | .startRepair n =>
    s.engine.isNone && (findJob s n).any fun j => decide (j.state = .fetching) && j.landed
  | .claimPlace n => (findJob s n).any fun j => decide (j.state = .repaired)
  | .install n =>
    (findJob s n).any fun j => decide (j.state = .committing) && j.stored.isSome && decide (copyHold s j.plate = 0)
  | .rework o i => decide ((o, i) ∈ s.restoreWait)
  | .returnItems o l => decide l.Nodup && l.all fun i => (findItem s o i).any fun it => decide (it.state = .waitEmbargo)
  | .cancel .. => true
  | .askSlabs => true
  | .examineWaiting => true
  | .failAtOnce _ => true

/-- One task. What it names may have gone on without it, by a cancellation that came first; then there is nothing to
do. -/
def perform (t : Task) (s : State) : State × List Task := if wanted s t then carryOut t s else (s, [])

/-- A member of the restore-wait list would not be turned away again (R154). -/
def canRework (s : State) (x : Nat × Nat) : Bool :=
  (findItem s x.1 x.2).any fun it =>
    match it.subject, it.bound with
    | .plate r, .restored p =>
      decide (presentProfile s r = some p) ||
        match jobOn s r with
        | some j => decide (j.profile = p) && decide (j.waiting.length < Config.waitingRoom)
        | none => decide (s.jobs.length < Config.jobRoom)
    | _, _ => true

/-- A FETCHING job landed, the engine free (R121). -/
def repairReady (s : State) : Option Nat :=
  if s.engine.isSome then none
  else (s.jobs.find? fun j => decide (j.state = .fetching) && j.landed).map (·.number)

/-- The first REPAIRED job in queue order, a place free (R122). -/
def placeReady (s : State) : Option Nat :=
  if freePlaces s = 0 then none
  else ((queueOrder s).find? fun j => decide (j.state = .repaired)).map (·.number)

/-- A job that awaits installation, nothing binding the copy present (R124). -/
def installReady (s : State) : Option Nat :=
  (s.jobs.find? fun j =>
    decide (j.state = .committing) && j.stored.isSome && decide (copyHold s j.plate = 0)).map (·.number)

/-- What the rules make happen next when no task is left, in this order (R95, R119, R121, R122, R124, R154,
R156). (Log 9.) -/
def followUp (s : State) : Option Task :=
  match repairReady s with
  | some n => some (.startRepair n)
  | none =>
    match placeReady s with
    | some n => some (.claimPlace n)
    | none =>
      match installReady s with
      | some n => some (.install n)
      | none =>
        match s.restoreWait.find? (canRework s) with
        | some x => some (.rework x.1 x.2)
        | none =>
          if (waitingHead s).isSome then some .examineWaiting
          else if (slabHead s).isSome then some .askSlabs
          else none

/-- The state after tasks, and how many items a request's own tasks have cancelled. -/
structure Tally where
  state : State
  cancelled : Nat
deriving DecidableEq, Repr

/-- The reasons that stand for a request's own cancellation (R25, R37, R163). -/
def CancelReason.byRequest : CancelReason → Bool
  | .orderCancelled => true
  | .barred => true
  | .suppressed => true
  | _ => false

/-- 1 for a task that cancels a live item for a request's own reason. -/
def Task.hits (s : State) : Task → Nat
  | .cancel o i reason => if reason.byRequest && (findItem s o i).any ItemRec.live then 1 else 0
  | _ => 0

/-- Tasks done one after another, the tasks each gives before those that waited, at most as many as the first
argument says. -/
def workOff : Nat → List Task → Tally → Tally
  | 0, _, w => w
  | _ + 1, [], w => w
  | n + 1, t :: ts, w =>
    let x := perform t w.state
    workOff n (x.2 ++ ts) ⟨x.1, w.cancelled + t.hits w.state⟩

/-- A task, and all that it leads to. -/
def workTask (n : Nat) (w : Tally) (t : Task) : Tally :=
  let x := perform t w.state
  workOff n x.2 ⟨x.1, w.cancelled + t.hits w.state⟩

/-- The tasks a step is handed, each with all that it leads to before the next. -/
def drainTasks (n : Nat) (tasks : List Task) (w : Tally) : Tally := tasks.foldl (workTask n) w

/-- The follow-ups, until there is none. -/
def followUps : Nat → Nat → Tally → Tally
  | 0, _, w => w
  | k + 1, n, w =>
    match followUp w.state with
    | none => w
    | some t => followUps k n (workTask n w t)

/-- More tasks than a step can have: every item, job, ticket and read goes through its stages once. (Log 25.) -/
def taskBound (tasks : List Task) (s : State) : Nat :=
  64 * (tasks.length + (openItems s).length + s.jobs.length + s.tickets.length + s.reads.length + 16)

/-- All that a step's tasks lead to. -/
def drainTally (tasks : List Task) (s : State) : Tally :=
  followUps (taskBound tasks s) (taskBound tasks s) (drainTasks (taskBound tasks s) tasks ⟨s, 0⟩)

/-- The state all of it leaves. -/
def drain (tasks : List Task) (s : State) : State := (drainTally tasks s).state

end Sys2Proof.Machine
end

