-- ==== Sys2Proof/Machine/Editions.lean ====
section
/-! DEFINITION. The requests of editions, pages and plates, and suppression (R5 to R7, R19 to R26). -/

namespace Sys2Proof.Machine

/-- What every meaning answers. -/
abbrev Answered := Host.Outcome State Fault Refusal

/-! ### OPEN-EDITION, DROP-EDITION -/

def sourceOf : Nat → Option Source
  | 1 => some .press
  | 2 => some .scan
  | _ => none

/-- R5's checks and effect. -/
def openEdition (r : OpenEditionReq) (s : State) : Checked := do
  let d ← lookup s.date .dateUnset
  let src ← lookup (sourceOf r.source) .malformed
  ensure (decide (1 ≤ r.index ∧ r.index ≤ 6 ∧ r.profile ≤ 7 ∧ (src = .scan → r.grade ≤ 3))) .outOfRange
  ensure (decide (r.day ≤ (if src = .press then d.today + 1 else d.today))) .outOfRange
  ensure (findEdition s r.day r.index).isNone .duplicate
  ensure (decide (s.editions.length < Config.editionRoom)) .tableFull
  let e : Edition := ⟨r.day, r.index, src, if src = .scan then r.grade else 0, r.profile, .opened, []⟩
  done { s with editions := s.editions ++ [e] } [.u16 r.day, .u8 r.index]

/-- OPEN-EDITION (R5). -/
def execOpenEdition (r : Taken OpenEditionReq) (s : State) : Answered := .next (request (.openEdition r) r openEdition s)

/-- R6's checks and effect. -/
def dropEdition (r : EditionReq) (s : State) : Checked := do
  let e ← lookup (findEdition s r.day r.index) .noSuch
  ensure (decide (e.state = .opened ∧ e.pages = [])) .wrongState
  done { s with editions := s.editions.filter fun e => !(e.hasKey r.day r.index) } []

/-- DROP-EDITION (R6). -/
def execDropEdition (r : Taken EditionReq) (s : State) : Answered := .next (request (.dropEdition r) r dropEdition s)

/-! ### EDITION-INFO, PAGE-INFO, PLATE-INFO -/

/-- A page slot in EDITION-INFO: page number, depth, state of the top plate (R7). -/
def PageSlot.brief (p : PageSlot) : List Wire :=
  [.u8 p.page, .u8 p.plates.length, .u8 ((p.plates.getLast?.map (·.state.code)).getD 0)]

/-- The close target and the ticks left, while CLOSING (R7). R198 gives the expected pages 1 byte and does not name the
close target, which is their number kept: that it has 1 byte too, and not 2 as a count, is the model's choice
(log 14). -/
def Edition.closing (e : Edition) (s : State) : List Wire :=
  match e.state with
  | .closing target timer => [.u8 target, .u32 ((timer.map (ticksLeft s closeSeconds)).getD 0)]
  | _ => []

def editionReport (e : Edition) (s : State) : List Wire :=
  [.u16 e.day, .u8 e.index, .u8 e.source.code, .u8 e.grade, .u8 e.profile, .u8 e.state.code, .u16 e.pages.length]
    ++ listOf PageSlot.brief e.pages ++ e.closing s

def editionInfo (r : EditionReq) (s : State) : Checked := do
  let e ← lookup (findEdition s r.day r.index) .noSuch
  done s (editionReport e s)

/-- EDITION-INFO (R7). -/
def execEditionInfo (r : Taken EditionReq) (s : State) : Answered := .next (request (.editionInfo r) r editionInfo s)

/-- A plate in PAGE-INFO (R20); `n` is its number. -/
def plateBrief (s : State) (r : PageReq) (x : Nat × Plate) : List Wire :=
  [.u8 x.1, .u8 x.2.state.code, .u32 x.2.size, .u16 (plateHold s ⟨r.day, r.index, r.page, x.1⟩)]
    ++ optional (fun c : RestoredCopy => [.u8 c.profile]) x.2.restored

/-- A page's plates with their numbers, from plate 1 to the top (R8). -/
def PageSlot.numbered (p : PageSlot) : List (Nat × Plate) := p.plates.zipIdx.map fun x => (x.2 + 1, x.1)

def pageInfo (r : PageReq) (s : State) : Checked := do
  let e ← lookup (findEdition s r.day r.index) .noSuch
  let p ← lookup (e.slot r.page) .noSuch
  done s ([.u8 p.page, .u8 p.plates.length] ++ listOf (plateBrief s r) p.numbered)

/-- PAGE-INFO (R20). -/
def execPageInfo (r : Taken PageReq) (s : State) : Answered := .next (request (.pageInfo r) r pageInfo s)

/-- A restored copy's fields, in R16's order. -/
def RestoredCopy.wire (c : RestoredCopy) : List Wire :=
  c.loc.wire ++ [.u32 c.size, .u8 c.profile, .u16 c.repaired, .u16 c.flat, .u32 c.specks]

/-- A plate record's fields in R12's order; the restored copy follows the hold counts (R21). The model's choices: the
plate number, which R21 and R12 both name, goes once; the width and height are one optional field with one presence
byte; a location's and a restored copy's start extent has 4 bytes (log 14). -/
def plateReport (s : State) (x : Resolved) : List Wire :=
  [.u8 x.ref.plate, .u8 x.plate.state.code, .u32 x.plate.size]
    ++ optional (fun t : Nat × Nat => [.u8 t.1, .u8 t.2]) x.plate.tiles ++ [wireCheck x.plate.check]
    ++ optional Location.wire x.plate.location ++ listOf (fun n => [.u16 n]) x.plate.photos
    ++ [.u8 x.plate.readFaults, .u16 (plateHold s x.ref), .u16 (copyHold s x.ref)]
    ++ optional RestoredCopy.wire x.plate.restored

def plateInfo (r : PlateReq) (s : State) : Checked := do
  let x ← resolved (resolve s r)
  done s (plateReport s x)

/-- PLATE-INFO (R21). -/
def execPlateInfo (r : Taken PlateReq) (s : State) : Answered := .next (request (.plateInfo r) r plateInfo s)

/-! ### SUPPRESS-ARM, SUPPRESS -/

/-- The arm number drawn at a value of the time base: its low 16 bits, 1 for 0 (R22). -/
def armNumber (t : Tick) : Nat := if t.toNat % 65536 = 0 then 1 else t.toNat % 65536

/-- R22's checks and effect. R198's table has no row for the arm number, which is no count: that it has 2 bytes, as its range
0 to 65,535 needs, is the model's choice (log 14). -/
def armSuppression (r : PlateReq) (s : State) : Checked := do
  let x ← resolved (resolveNumbered s r)
  ensure (decide (x.edition.state = .closed)) .wrongState
  ensure (decide (x.plate.state ≠ .suppressed)) .suppressed
  ensure (decide (x.plate.state = .stored)) .wrongState
  done { s with arm := some ⟨x.ref, armNumber s.timeBase, s.timeBase⟩ } [.u16 (armNumber s.timeBase)]

/-- SUPPRESS-ARM (R22). -/
def execSuppressArm (r : Taken PlateReq) (s : State) : Answered :=
  .next (request (.suppressArm r) r armSuppression s)

/-- The plate as the arm keeps it. -/
def armedRef (r : PlateReq) : PlateRef := ⟨r.day, r.index, r.page, r.plate⟩

/-- The live items on a subject, in the order their orders were accepted and within an order in list order
(R25, R37). -/
def liveItemsOn (s : State) (x : Subject) : List (Nat × Nat) :=
  s.orders.flatMap fun o =>
    ((List.range o.items.length).map (· + 1)).filterMap fun i =>
      if (o.item i).any fun it => it.live && decide (it.subject = x) then some (o.number, i) else none

/-- The job on a plate ends for its suppression; its items leave its list uncancelled (R25, step 2, R127). -/
def suppressJob (r : PlateRef) (s : State) : State :=
  match jobOn s r with
  | none => s
  | some j => raiseJobFailed j .suppressed j.waiting.length (detachItems j.waiting (endJob j s))

/-- The restored copy is discarded and the plate becomes SUPPRESSED (R25, steps 4 and 5). -/
def withdrawFromService (r : PlateRef) (s : State) : State :=
  let s := match (findPlate s r).bind (·.restored) with
    | some c => returnExtents c.loc (slabsFor c.size) s
    | none => s
  modifyPlate r (fun p => { p with restored := none, state := .suppressed }) s

/-- An accepted SUPPRESS (R25). -/
def suppressPlate (r : PlateRef) (s : State) : State × List Wire :=
  let tickets := ticketHolds s (.plate r)
  let jobs := jobHolds s r
  let t := suppressJob r (freeTicketsOn (.plate r) s)
  let w := drainTally ((liveItemsOn t (.plate r)).map fun x => .cancel x.1 x.2 .suppressed) t
  let counts := [.u16 tickets, .u16 jobs, .u16 w.cancelled]
  (raise .plateSuppressed (.plate r) counts (withdrawFromService r w.state), counts)

/-- R24's checks, `arm` being the arm that was live when the request was taken. No check comes before BAD-ARM,
so LATEST, which no arm names, is BAD-ARM. (Log 17.) -/
def suppress (arm : Option Arm) (r : SuppressReq) (s : State) : Checked := do
  ensure (arm.any fun a => decide (a.plate = (armedRef r.plate)) && decide (a.number = r.arm)) .badArm
  ensure (!((jobOn s (armedRef r.plate)).any fun j => decide (j.state = .committing))) .plateBusy
  let x := suppressPlate (armedRef r.plate) s
  done x.1 x.2

/-- SUPPRESS (R24): the arm is read as it is dropped. -/
def execSuppress (r : Taken SuppressReq) (s : State) : Answered := .next (request (.suppress r) r (suppress s.arm) s)

end Sys2Proof.Machine
end

