-- ==== Sys2Proof/Machine/Photos.lean ====
section
/-! DEFINITION. The photo requests (R31, R32, R35, R37 to R39, R42). -/

namespace Sys2Proof.Machine

/-! ### FILE-PHOTO -/

/-- The three rights a request may not set out of range (R31, R35). -/
def rightsInRange (holder fee share : Nat) : Bool := decide (holder ≤ 63 ∧ fee ≤ 10000000 ∧ share ≤ 100)

/-- A refill's fields over the record's (R32). -/
def Photo.refill (r : FilePhotoReq) (p : Photo) : Photo :=
  { p with
    state := .receiving, size := r.size, check := r.check, photoDay := r.photoDay
    holder := r.holder, fee := r.fee, share := r.share, embargo := r.embargo }

/-- A new photo record (R31). -/
def newPhoto (r : FilePhotoReq) : Photo :=
  ⟨r.photo, .receiving, r.size, r.check, none, r.photoDay, r.holder, r.fee, r.share, r.embargo, false, 0, 0⟩

/-- The record is created, or refilled when it is there (R31, R32). -/
def filePhotoRecord (r : FilePhotoReq) (s : State) : State :=
  match findPhoto s r.photo with
  | none => { s with photos := s.photos ++ [newPhoto r] }
  | some _ => modifyPhoto r.photo (Photo.refill r) s

/-- R31's and R32's checks and effect. -/
def filePhoto (r : FilePhotoReq) (s : State) : Checked := do
  ensure (decide (r.photo ≠ 0)) .outOfRange
  ensure (decide (r.size ≠ 0 ∧ r.size ≤ 67108864) && rightsInRange r.holder r.fee r.share) .outOfRange
  ensure ((findPhoto s r.photo).all fun p => decide (p.state = .incomplete ∨ p.state = .failed)) .duplicate
  let k ← slotTests r.size s
  done (bindSlot k (.photo r.photo) .photo r.size r.check (filePhotoRecord r s)) [.u8 k]

/-- FILE-PHOTO (R31). -/
def execFilePhoto (r : Taken FilePhotoReq) (s : State) : Answered := .next (request (.filePhoto r) r filePhoto s)

/-! ### SET-RIGHTS, BAR-PHOTO, UNBAR-PHOTO -/

/-- The four rights replaced (R35). -/
def Photo.setRights (r : RightsReq) (p : Photo) : Photo :=
  { p with holder := r.holder, fee := r.fee, share := r.share, embargo := r.embargo }

/-- R35's checks and effect, with the re-check of R36 for this photo. -/
def setRights (r : RightsReq) (s : State) : Checked := do
  let _ ← lookup (findPhoto s r.photo) .noSuch
  ensure (rightsInRange r.holder r.fee r.share) .outOfRange
  let t := modifyPhoto r.photo (Photo.setRights r) s
  done (drain (recheck t (some r.photo)) t) []

/-- SET-RIGHTS (R35). -/
def execSetRights (r : Taken RightsReq) (s : State) : Answered := .next (request (.setRights r) r setRights s)

/-- R37's effect: tickets freed, items cancelled, the flag set, PHOTO-BARRED. -/
def barPhoto (n : Nat) (s : State) : Checked := do
  let _ ← lookup (findPhoto s n) .noSuch
  let t := freeTicketsOn (.photo n) s
  let w := drainTally ((liveItemsOn t (.photo n)).map fun x => .cancel x.1 x.2 .barred) t
  let counts := [.u16 (ticketHolds s (.photo n)), .u16 w.cancelled]
  done (raise .photoBarred (.photo n) counts (modifyPhoto n (fun p => { p with barred := true }) w.state)) counts

/-- BAR-PHOTO (R37). -/
def execBarPhoto (r : Taken Nat) (s : State) : Answered := .next (request (.barPhoto r) r barPhoto s)

def unbarPhoto (n : Nat) (s : State) : Checked := do
  let _ ← lookup (findPhoto s n) .noSuch
  done (modifyPhoto n (fun p => { p with barred := false }) s) []

/-- UNBAR-PHOTO (R38). -/
def execUnbarPhoto (r : Taken Nat) (s : State) : Answered := .next (request (.unbarPhoto r) r unbarPhoto s)

/-! ### REMOVE-PHOTO, PHOTO-INFO -/

/-- What the removed photo held is given back, by its state (R39). -/
def giveBackPhoto (p : Photo) (s : State) : State :=
  match p.state with
  | .queued => removeEntry (.photo p.number) s
  | .stored =>
    match p.location with
    | some l => returnExtents l (slabsFor p.size) s
    | none => s
  | _ => s

/-- R39's checks and effect. -/
def removePhoto (n : Nat) (s : State) : Checked := do
  let p ← lookup (findPhoto s n) .noSuch
  ensure (decide (p.state ≠ .receiving ∧ p.state ≠ .committing)) .plateBusy
  ensure (decide (p.useCount = 0)) .held
  ensure (decide (photoHold s n = 0)) .held
  let t := giveBackPhoto p s
  done (drain [] { t with photos := t.photos.filter fun q => decide (q.number ≠ n) }) []

/-- REMOVE-PHOTO (R39). -/
def execRemovePhoto (r : Taken Nat) (s : State) : Answered := .next (request (.removePhoto r) r removePhoto s)

/-- A photo record's fields in R27's order, then the hold count (R42). -/
def photoReport (s : State) (p : Photo) : List Wire :=
  [.u16 p.number, .u8 p.state.code, .u32 p.size, wireCheck p.check]
    ++ optional Location.wire p.location
    ++ [.u16 p.photoDay, .u8 p.holder, .u32 p.fee, .u8 p.share]
    ++ optional (fun d => [.u16 d]) p.embargo
    ++ [flag p.barred, .u32 p.useCount, .u8 p.readFaults, .u16 (photoHold s p.number)]

def photoInfo (n : Nat) (s : State) : Checked := do
  let p ← lookup (findPhoto s n) .noSuch
  done s (photoReport s p)

/-- PHOTO-INFO (R42). -/
def execPhotoInfo (r : Taken Nat) (s : State) : Answered := .next (request (.photoInfo r) r photoInfo s)

end Sys2Proof.Machine
end

