-- ==== Sys2Proof/Machine/Deposit.lean ====
section
/-! DEFINITION. Deposit and edition close: DEPOSIT, REDEPOSIT, DEPOSIT-END, WITHDRAW-PLATE, CLOSE-EDITION,
DATA-IN frames, the stall timer and the close timer (R46 to R66). -/

namespace Sys2Proof.Machine

/-! ### Checks that DEPOSIT and REDEPOSIT share -/

/-- The size and tile checks of R46, step 4. -/
def sizeChecks (e : Edition) (size width height : Nat) : Except ReplyBody Unit :=
  match e.source with
  | .press => ensure (decide (size ≠ 0 ∧ size ≤ 134217728)) .outOfRange
  | .scan => do
    ensure (decide (width ≠ 0 ∧ width ≤ 128 ∧ height ≠ 0 ∧ height ≤ 192)) .outOfRange
    ensure (decide (size = width * height * 4096)) .malformed

/-- The photo list checks of R34. -/
def photoChecks (s : State) (l : List Nat) : Except ReplyBody Unit := do
  ensure (decide (l.length ≤ 16)) .malformed
  ensure (l.all fun n => (findPhoto s n).isSome) .noSuch
  ensure (decide l.Nodup) .duplicate

/-- Raster dimensions are kept for SCAN editions only (R12). -/
def tilesFor (e : Edition) (width height : Nat) : Option (Nat × Nat) :=
  match e.source with
  | .press => none
  | .scan => some (width, height)

/-! ### DEPOSIT -/

/-- A new plate (R47). -/
def newPlate (e : Edition) (r : DepositReq) : Plate :=
  ⟨.receiving, r.size, tilesFor e r.width r.height, r.check, none, r.photos, none, 0⟩

/-- A push (R9): on top of the page's stack, its page slot made with its first plate. -/
def pushPlate (page : Nat) (p : Plate) (e : Edition) : Edition :=
  match e.slot page with
  | none => { e with pages := insertSlot ⟨page, [p]⟩ e.pages }
  | some _ => e.modifySlot page fun x => { x with plates := x.plates ++ [p] }

/-- The page's depth, 0 with no page slot (R8). -/
def Edition.depth (e : Edition) (page : Nat) : Nat := ((e.slot page).map (·.plates.length)).getD 0

/-- R46's checks and R47's effect. -/
def deposit (r : DepositReq) (s : State) : Checked := do
  let e ← lookup (findEdition s r.day r.index) .noSuch
  ensure (decide (e.state = .opened)) .wrongState
  ensure (decide (r.page ≠ 0 ∧ r.page ≤ 192)) .outOfRange
  sizeChecks e r.size r.width r.height
  photoChecks s r.photos
  let n := e.depth r.page
  ensure (decide (n < 8)) .stackFull
  let k ← slotTests r.size s
  let t := addUses r.photos (modifyEdition r.day r.index (pushPlate r.page (newPlate e r)) s)
  done (bindSlot k (.plate ⟨r.day, r.index, r.page, n + 1⟩) .push r.size r.check t) [.u8 k, .u8 (n + 1)]

/-- DEPOSIT (R46). -/
def execDeposit (r : Taken DepositReq) (s : State) : Answered := .next (request (.deposit r) r deposit s)

/-! ### REDEPOSIT -/

/-- The refilled plate (R11, R49). -/
def Plate.refill (e : Edition) (r : RedepositReq) (p : Plate) : Plate :=
  { p with
    state := .receiving, size := r.size, check := r.check, tiles := tilesFor e r.width r.height
    photos := r.photos.getD p.photos }

/-- Use counts follow a replaced list: those that leave it fall, those that join it rise (R11, R34). -/
def replaceUses (old new : List Nat) (s : State) : State :=
  addUses (new.filter fun n => decide (n ∉ old)) (dropUses (old.filter fun n => decide (n ∉ new)) s)

/-- R48's checks and R49's effect. -/
def redeposit (r : RedepositReq) (s : State) : Checked := do
  let x ← resolved (resolveNumbered s r.plate)
  ensure (decide (x.edition.state = .opened)) .wrongState
  ensure (decide (x.plate.state = .incomplete ∨ x.plate.state = .failed)) .wrongState
  ensure (decide (plateHold s x.ref = 0)) .held
  sizeChecks x.edition r.size r.width r.height
  (match r.photos with
    | none => .ok ()
    | some l => photoChecks s l)
  let k ← slotTests r.size s
  let t := replaceUses x.plate.photos (r.photos.getD x.plate.photos)
    (modifyPlate x.ref (Plate.refill x.edition r) s)
  done (bindSlot k (.plate x.ref) .refill r.size r.check t) [.u8 k]

/-- REDEPOSIT (R48). -/
def execRedeposit (r : Taken RedepositReq) (s : State) : Answered := .next (request (.redeposit r) r redeposit s)

/-! ### DEPOSIT-END -/

/-- The first check of R55 that fails. -/
def Slot.failed (x : Slot) : Option Reason :=
  if x.kept.length ≠ x.declared then some .short
  else if x.fault then some .sequence
  else if crc32End x.crc ≠ x.check then some .checkMismatch
  else none

/-- The receive passes: the record is QUEUED, the reserved place and the slabs pass to a new entry at the tail
of the queue, and the slot is FREE (R55). -/
def queueSlot (k : Nat) (x : Slot) (s : State) : State :=
  let s := setContent x.record .queued (setSlot k none s)
  { s with queue := s.queue ++ [⟨x.record.entry, slabsFor x.declared, x.check, x.kept, x.slabs, 0, [], none⟩] }

/-- R57's checks and the outcome of R55 or R56. -/
def depositEnd (k : Nat) (s : State) : Checked := do
  ensure (decide (k ≤ 3)) .outOfRange
  let x ← lookup (slotAt s k) .noSuch
  match x.failed with
  | none =>
    let t := queueSlot k x s
    done t [.u8 1, .u32 x.kept.length, .u16 t.queue.length]
  | some reason =>
    let t := setContent x.record .failed (releaseSlot k s)
    done (drain [] t) [.u8 2, .u8 reason.code, .u32 x.kept.length, .u32 x.declared]

/-- DEPOSIT-END (R55). -/
def execDepositEnd (r : Taken Nat) (s : State) : Answered := .next (request (.depositEnd r) r depositEnd s)

/-! ### WITHDRAW-PLATE -/

/-- R58's checks and R59's effect. -/
def withdrawPlate (r : PlateReq) (s : State) : Checked := do
  let x ← resolved (resolveNumbered s r)
  ensure (decide (x.edition.state = .opened)) .wrongState
  ensure (decide (x.slot.plates.length ≤ x.ref.plate)) .wrongState
  ensure (decide (x.plate.state ≠ .committing)) .plateBusy
  ensure (decide (plateHold s x.ref = 0)) .held
  done (drain [] (removePlate x.ref x.plate s)) [.u8 (x.slot.plates.length - 1)]

/-- WITHDRAW-PLATE (R58). -/
def execWithdrawPlate (r : Taken PlateReq) (s : State) : Answered :=
  .next (request (.withdrawPlate r) r withdrawPlate s)

/-! ### CLOSE-EDITION -/

/-- A state that leaves an edition unsettled (R60, step 5). -/
def ContentState.unsettled : ContentState → Bool
  | .receiving => true
  | .incomplete => true
  | .failed => true
  | _ => false

/-- The first page in ascending page number with an unsettled plate, with the lowest such plate and its state
(R60, step 5). -/
def Edition.firstUnsettled (e : Edition) : Option (Nat × Nat × ContentState) :=
  e.pages.findSome? fun p =>
    p.numbered.findSome? fun x => if x.2.state.unsettled then some (p.page, x.1, x.2.state) else none

/-- Plates neither STORED nor SUPPRESSED (R61, R65). -/
def Edition.unstored (e : Edition) : Nat :=
  e.plates.countP fun p => decide (p.state ≠ .stored) && decide (p.state ≠ .suppressed)

def setEditionState (day index : Nat) (st : EditionState) (s : State) : State :=
  modifyEdition day index (fun e => { e with state := st }) s

/-- The edition becomes CLOSED, with EDITION-CLOSED (R61, R63). -/
def closeNow (e : Edition) (s : State) : State :=
  raise .editionClosed (.edition e.day e.index) [.u16 e.pages.length] (setEditionState e.day e.index .closed s)

/-- R60's checks and R61's effect. -/
def closeEdition (r : CloseReq) (s : State) : Checked := do
  let e ← lookup (findEdition s r.day r.index) .noSuch
  ensure (decide (e.state = .opened)) .wrongState
  ensure (decide (r.expected ≠ 0 ∧ r.expected ≤ 192)) .outOfRange
  if e.pages.length ≠ r.expected then refuse .countMismatch [.u16 e.pages.length]
  else
    match e.firstUnsettled with
    | some (page, n, st) => refuse .unsettled [.u8 page, .u8 n, .u8 st.code]
    | none =>
      if e.unstored = 0 then done (closeNow e s) [.u8 1]
      else done (setEditionState r.day r.index (.closing r.expected (some s.timeBase)) s) [.u8 2, .u16 e.unstored]

/-- CLOSE-EDITION (R60). -/
def execCloseEdition (r : Taken CloseReq) (s : State) : Answered :=
  .next (request (.closeEdition r) r closeEdition s)

/-! ### The close timer -/

/-- CLOSE-FAILED's reasons, in the order R64 and R65 give them. -/
def reasonPlateFailed : Nat := 1
def reasonTimeLimit : Nat := 2

/-- CLOSE_TIMER_EXPIRY (R65). -/
def execCloseTimerExpiry (day index : Nat) (s : State) : Answered :=
  .next <|
    match findEdition s day index with
    | none => s
    | some e =>
      match e.state with
      | .closing _ (some start) =>
        if due s closeSeconds start then
          raise .closeFailed (.edition day index) [.u8 reasonTimeLimit, .u16 e.unstored]
            (setEditionState day index .opened s)
        else s
      | _ => s

/-! ### DATA-IN frames -/

/-- What a BOUND slot keeps of a data frame's bytes: those that fit, and none at a wrong offset (R50, R51). -/
def Slot.accepts (offset : Nat) (data : List Byte) (x : Slot) : List Byte :=
  if offset = x.kept.length then data.take (x.declared - x.kept.length) else []

/-- A data frame with this offset and these bytes at a BOUND slot (R50, R51). -/
def Slot.take (now : Tick) (offset : Nat) (data : List Byte) (x : Slot) : Slot :=
  if offset ≠ x.kept.length then { x with fault := true }
  else if x.declared - x.kept.length = 0 then { x with fault := true }
  else
    let kept := x.accepts offset data
    { x with
      kept := x.kept ++ kept, crc := crc32Run x.crc kept, stall := now
      fault := x.fault || decide (kept.length < data.length) }

/-- A data frame goes to its slot, which writes what it keeps into its own slabs (R50, R51, R92). -/
def fillSlot (k offset : Nat) (data : List Byte) (x : Slot) (s : State) : State :=
  stage x.slabs x.kept.length (x.accepts offset data) (setSlot k (some (x.take s.timeBase offset data)) s)

/-- A DATA-IN frame handed to the Receive Slots (R50, R51). -/
def receiveData (tag : Nat) (body : List Byte) (s : State) : State :=
  if body.length < 5 ∨ 4100 < body.length then s
  else
    match slotAt s tag with
    | none => s
    | some x => fillSlot tag (beNat (body.take 4)) (body.drop 4) x s

/-! ### The stall timer -/

/-- The plate stands on top of its page's stack. -/
def onTop (s : State) (r : PlateRef) : Bool :=
  (findEdition s r.day r.index).any fun e => (e.slot r.page).any fun p => decide (p.plates.length = r.plate)

/-- DEPOSIT-STALLED's outcomes (R53). -/
def outcomeRemoved : Nat := 1
def outcomeFailed : Nat := 2

/-- What becomes of the record of a stalled deposit, and the outcome its notice reports (R53). -/
def stallRecord (k : Nat) (x : Slot) (s : State) : State × Nat :=
  match x.kind, x.record with
  | .push, .plate r =>
    if onTop s r then
      match findPlate s r with
      | some p => (removePlate r p s, outcomeRemoved)
      | none => (setContent x.record .failed (releaseSlot k s), outcomeFailed)
    else (setContent x.record .failed (releaseSlot k s), outcomeFailed)
  | _, _ => (setContent x.record .failed (releaseSlot k s), outcomeFailed)

/-- STALL_TIMER_EXPIRY (R53). -/
def execStallTimerExpiry (slot : Nat) (s : State) : Answered :=
  .next <|
    match slotAt s slot with
    | none => s
    | some x =>
      if due s stallSeconds x.stall then
        let t := stallRecord slot x s
        drain [] (raise .depositStalled x.record.notice [.u32 x.kept.length, .u32 x.declared, .u8 t.2] t.1)
      else s

end Sys2Proof.Machine
end

