-- ==== Sys2Proof/Machine/Medium.lean ====
section
/-! DEFINITION. Medium units and the Commit Engine: the unit requests (R70, R71, R79, R86, R87), grant (R76 to
R82, R88), the ends of write attempts (R83, R84) and of reads (R88, R90, R91), and the operation limit (R73). -/

namespace Sys2Proof.Machine

/-! ### Classes and grant -/

/-- The class of a commit entry, read from its subject (R62, R76). -/
def entryClass (s : State) : EntrySubject → Nat
  | .plate r => if (findEdition s r.day r.index).any Edition.isClosing then 0 else 2
  | _ => 2

/-- A class is held (R79). -/
def isHeld (s : State) (c : Nat) : Bool := (decide (c = 2) && s.held2) || (decide (c = 3) && s.held3)

/-- Some unit outside a set is ONLINE with room for n extents (R80, condition 4). -/
def freshUnit (s : State) (tried : List Nat) (n : Nat) : Bool :=
  (List.range s.units.length).any fun u =>
    decide (u ∉ tried) && decide ((unitAt s u).state = .online) && decide (n ≤ (unitAt s u).free)

/-- An ONLINE unit can serve a pending commit entry (R80). -/
def canCommit (s : State) (u : Nat) (e : Entry) : Bool :=
  e.inFlight.isNone && decide ((unitAt s u).state = .online)
    && !isHeld s (entryClass s e.subject)
    && decide (s.supply = .normal) && s.writeHold.isNone
    && decide (e.extents ≤ (unitAt s u).free)
    && (decide (e.attempts = 0) || decide (u ∉ e.tried) || !freshUnit s e.tried e.extents)

/-- A unit can serve a waiting read (R88). -/
def canRead (s : State) (u : Nat) (r : Read) : Bool :=
  decide (r.unit = u) && decide ((unitAt s u).state = .online ∨ (unitAt s u).state = .readOnly)
    && !isHeld s r.owner.cls

/-- What an arbiter grants its unit. -/
inductive Grant where
  | commit (e : Entry)
  | read (r : Read)
deriving DecidableEq, Repr

def commitOf (s : State) (u c : Nat) : Option Grant :=
  (s.queue.find? fun e => decide (entryClass s e.subject = c) && canCommit s u e).map .commit

def readOfClass (s : State) (u c : Nat) : Option Grant :=
  (s.reads.find? fun r => decide (r.owner.cls = c) && canRead s u r).map .read

/-- An IDLE unit's arbiter takes the highest class with work the unit can serve, and in it the first such work
(R76, R77). -/
def arbiterChoice (s : State) (u : Nat) : Option Grant :=
  if (unitAt s u).op.isSome then none
  else (commitOf s u 0).orElse fun _ => (readOfClass s u 1).orElse fun _ =>
    (commitOf s u 2).orElse fun _ => readOfClass s u 3

/-- The content record of a commit subject; a restored copy has none of its own (R82). -/
def EntrySubject.record : EntrySubject → Option Subject
  | .plate r => some (.plate r)
  | .photo n => some (.photo n)
  | .restored _ => none

/-- A content state for a commit subject's record; none for a restored copy (R82). -/
def setEntryContent (x : EntrySubject) (st : ContentState) (s : State) : State :=
  match x.record with
  | some y => setContent y st s
  | none => s

/-- The size of a commit's content, in bytes (R72). -/
def Entry.size (e : Entry) : Nat := e.content.length

/-- An attempt begins (R82). -/
def beginAttempt (u : Nat) (e : Entry) (s : State) : State :=
  let op := s.opCount
  let s := modifyEntry e.subject (fun x => { x with
    inFlight := some (u, s.timeBase)
    attempts := x.attempts + 1
    tried := if u ∈ x.tried then x.tried else x.tried ++ [u] }) s
  let s := modifyUnit u (fun x => { x with free := x.free - e.extents }) s
  let s := setEntryContent e.subject .committing (sendOperation u (.write e.subject) s)
  tell (.writeVerify u op e.extents e.size e.check e.content) s

/-- COMMIT_GRANT (R82): the arbiter's choice is a commit entry. -/
def execCommitGrant (u : Nat) (s : State) : Answered :=
  .next <|
    match arbiterChoice s u with
    | some (.commit e) => beginAttempt u e s
    | _ => s

/-- A READ is sent for a try of a read (R72, R88). -/
def sendRead (u : Nat) (r : Read) (try_ : Nat) (s : State) : State :=
  tell (.read u s.opCount r.start r.extents r.size) (sendOperation u (.read r try_ true) s)

/-- A ticket whose read is sent becomes READING (R103). -/
def markReading (o : Owner) (s : State) : State :=
  match o with
  | .ticket n => modifyTicket n (fun t => { t with state := .reading }) s
  | _ => s

/-- READ_GRANT (R88): the arbiter's choice is a read. -/
def execReadGrant (u : Nat) (s : State) : Answered :=
  .next <|
    match arbiterChoice s u with
    | some (.read r) =>
      markReading r.owner (sendRead u r 1 { s with reads := s.reads.filter fun x => decide (x.owner ≠ r.owner) })
    | _ => s

/-! ### The end of an operation -/

/-- A kind of operation as UNIT-FAULTED and UNIT-LIST name it (R67). -/
def kindWrite : Nat := 1
def kindRead : Nat := 2

/-- UNIT-FAULTED's cause for a failure: ERROR 1 or EXPIRED 2 (R75). A mismatch is neither: the free value of
log 13. -/
def faultCause (s : State) (cause : Nat) : Nat :=
  if cause = causeError then 1
  else if cause = causeExpired then 2
  else if Config.mismatchCauseIsError s.freeCount then 1 else 2

/-- A use of the free value is counted. -/
def countFree (cause : Nat) (s : State) : State :=
  if cause = causeMismatch then { s with freeCount := s.freeCount + 1 } else s

/-- A failure is counted; the eighth in a row makes the unit FAULTED, with UNIT-FAULTED (R75). -/
def countFailure (u kind cause : Nat) (s : State) : State :=
  let t := modifyUnit u (fun x => { x with failures := min 8 (x.failures + 1) }) s
  if (unitAt t u).failures = 8 then
    raise .unitFaulted (.unit u) [.u8 kind, .u8 (faultCause s cause)]
      (countFree cause (modifyUnit u (fun x => { x with state := .faulted }) t))
  else t

/-- The reads waiting for a unit that has become FAULTED fail (R75, R89). -/
def faultTasks (s : State) (u : Nat) : List Task :=
  if (unitAt s u).state = .faulted then (waitingOwners s u).map .failAtOnce else []

/-- CONTENT-STORED, for a plate or photo (R83). -/
def raiseStored (x : EntrySubject) (u attempts : Nat) (s : State) : State :=
  match x.record with
  | some y => raise .contentStored y.notice [.u8 u, .u8 attempts] s
  | none => s

/-- CONTENT-FAILED, for a plate or photo; its causes are ERROR 1 and EXPIRED 2 (R84). -/
def raiseFailed (x : EntrySubject) (tried : List Nat) (cause : Nat) (s : State) : State :=
  match x.record with
  | some y => raise .contentFailed y.notice [memberBits tried, .u8 (if cause = causeError then 1 else 2)] s
  | none => s

/-- The close of a plate's edition is looked at when the plate has become STORED (R63). -/
def closeIfStored (x : EntrySubject) (s : State) : State :=
  match x with
  | .plate r =>
    match findEdition s r.day r.index with
    | none => s
    | some e => if e.isClosing ∧ e.unstored = 0 then closeNow e s else s
  | _ => s

/-- A plate of a CLOSING edition has become FAILED: the edition returns to OPEN, with CLOSE-FAILED (R64). -/
def closeFailedBy (x : EntrySubject) (s : State) : State :=
  match x with
  | .plate r =>
    match findEdition s r.day r.index with
    | none => s
    | some e =>
      if e.isClosing then
        raise .closeFailed (.edition r.day r.index) [.u8 reasonPlateFailed, .u8 r.page, .u8 r.plate]
          (setEditionState r.day r.index .opened s)
      else s
  | _ => s

/-- What a stored commit does for its subject (R83): the record is STORED, or the job records its copy (R123). -/
def storeSubject (x : EntrySubject) (l : Location) (s : State) : State :=
  match x with
  | .plate r => setStored (.plate r) l s
  | .photo n => setStored (.photo n) l s
  | .restored j => modifyJob j (fun j => { j with stored := some l }) s

/-- A write that ended OK: the unit IDLE, its failures 0, its write count up, stopping at its top (R75, R83). -/
def writeDone (u : Nat) (s : State) : State :=
  modifyUnit u (fun x => { x with writeCount := min 4294967295 (x.writeCount + 1) })
    (clearFailures u (endOperation u s))

/-- An attempt ended OK (R83). -/
def attemptDone (u start : Nat) (e : Entry) (s : State) : State :=
  let s := removeEntry e.subject (storeSubject e.subject ⟨u, start⟩ (writeDone u s))
  drain [] (closeIfStored e.subject (raiseStored e.subject u e.attempts s))

/-- A commit failed on its third attempt (R84). -/
def commitFailed (e : Entry) (cause : Nat) (s : State) : State × List Task :=
  let s := removeEntry e.subject (setEntryContent e.subject .failed s)
  (closeFailedBy e.subject (raiseFailed e.subject e.tried cause s),
    match e.subject with
    | .restored j => [.failJob j .commitFailed .restoreFailed]
    | _ => [])

/-- An attempt failed, by ERROR or expiry (R84). -/
def attemptFailed (u : Nat) (e : Entry) (cause : Nat) (s : State) : State :=
  let s := modifyUnit u (fun x => { x with free := x.free + e.extents }) (endOperation u s)
  let s := countFailure u kindWrite cause s
  let x :=
    if e.attempts < 3 then
      (setEntryContent e.subject .queued (modifyEntry e.subject (fun x => { x with inFlight := none }) s), [])
    else commitFailed e cause s
  drain (x.2 ++ faultTasks s u) x.1

/-- The entry of the write outstanding at a unit under a number. -/
def writeAt (s : State) (u op : Nat) : Option Entry :=
  match outstanding s u op with
  | some (.write x) => findEntry s x
  | _ => none

/-- WRITE_VERIFY_OK (R83); an answer to no write outstanding, one aborted among them, is discarded (R72, R73). -/
def execWriteVerifyOk (a : UnitOp) (start : Nat) (s : State) : Answered :=
  .next <|
    match writeAt s a.unit a.op with
    | some e => attemptDone a.unit start e s
    | none => s

/-- WRITE_VERIFY_ERROR (R84); an answer to no write outstanding is discarded (R72, R73). -/
def execWriteVerifyError (a : UnitOp) (s : State) : Answered :=
  .next <|
    match writeAt s a.unit a.op with
    | some e => attemptFailed a.unit e causeError s
    | none => s

/-! ### Reads -/

/-- The slabs a read's bytes land in: its owner's (R88, R92). -/
def ownerSlabs (s : State) : Owner → List Nat
  | .ticket n => ((findTicket s n).map (·.slabs)).getD []
  | .job n => ((findJob s n).map (·.inputSlabs)).getD []
  | .item o i => ((findItem s o i).map (·.slabs)).getD []

/-- The owner's content has landed and is checked: a ticket becomes READY (R103), a job's input is landed
(R120), an item becomes READY and the next of its order active (R157). -/
def landed (r : Read) (b : List Byte) (s : State) : State :=
  match r.owner with
  | .ticket n =>
    drain [] (raise .ticketReady (.ticket n) (r.subject.wire ++ [.u8 r.copy.code, .u32 r.size])
      (modifyTicket n (fun t => { t with state := .ready (some s.timeBase), content := b }) s))
  | .job n => drain [] (modifyJob n (fun j => { j with landed := true, input := b }) s)
  | .item o i =>
    match findItem s o i with
    | none => s
    | some it =>
      let t := leaveTurn o i
        (modifyItem o i (fun x => { x with state := .ready (some s.timeBase), content := b }) s)
      drain [.activate o]
        (raise .itemReady (.item o i)
          ([.u8 it.product.code] ++ it.subject.wire ++ it.bound.wire ++ [.u32 r.size]) t)

/-- A read has failed its second try (R90). -/
def readFailed (u : Nat) (r : Read) (cause : Nat) (s : State) : State :=
  let s := countFailure u kindRead cause (raiseFaults r.subject (endOperation u s))
  let x := ownerFailed r.owner (raiseFetchFailed r cause s)
  drain (x.2 ++ faultTasks s u) x.1

/-- A try of a read has failed: try 1 is sent again at once (R88), try 2 fails the read (R90). -/
def tryFailed (u : Nat) (r : Read) (try_ cause : Nat) (s : State) : State :=
  if try_ = 1 then sendRead u r 2 s else readFailed u r cause s

/-- A unit's answer to an owned read (R88): OK's bytes land in the owner's slabs and are judged. The bytes past the size
are not looked at. (Log 20.) -/
def readAnswered (u : Nat) (r : Read) (try_ : Nat) (answer : Option (List Byte)) (s : State) : State :=
  match answer with
  | none => tryFailed u r try_ causeError s
  | some b =>
    let t := stage (ownerSlabs s r.owner) 0 (b.take r.size) s
    if crc32 (b.take r.size) = r.check then landed r (b.take r.size) (clearFailures u (endOperation u t))
    else tryFailed u r try_ causeMismatch t

/-- The end of a read without an owner: an OK answer still clears the unit's failures (R91). -/
def orphanEnded (u : Nat) (ok : Bool) (s : State) : State :=
  if ok then clearFailures u (endOperation u s) else endOperation u s

/-- READ_ANSWER (R88); an answer to no read outstanding, a try that has expired among them, is discarded (R72, R73). -/
def execReadAnswer (a : UnitOp) (answer : Option (List Byte)) (s : State) : Answered :=
  .next <|
    match outstanding s a.unit a.op with
    | some (.read r t true) => readAnswered a.unit r t answer s
    | some (.read _ _ false) => orphanEnded a.unit answer.isSome s
    | _ => s

/-! ### The operation limit -/

/-- An operation's failure by expiry, the abort sent first (R73). -/
def operationExpired (u : Nat) (w : Work) (s : State) : State :=
  let s := tell (.abort u) s
  match w with
  | .write x =>
    match findEntry s x with
    | some e => attemptFailed u e causeExpired s
    | none => endOperation u s
  | .read r t true => tryFailed u r t causeExpired s
  | .read _ _ false => orphanEnded u false s

/-- OPERATION_LIMIT_EXPIRY (R73). -/
def execOperationLimitExpiry (u : Nat) (s : State) : Answered :=
  .next <|
    match (unitAt s u).op with
    | some ⟨_, w, sentAt, limit⟩ => if due s limit sentAt then operationExpired u w s else s
    | none => s

/-! ### Requests -/

/-- The work of an operation, its class and its attempt or try (R71). A read without an owner (R91) goes with kind 0 as its
owner. R76 classes a read by its owner: that a read without one is reported with the class of the owner that asked for it is
the model's choice (log 14), and so is that a write is reported with the class its subject has when the request is taken. -/
def Work.wire (s : State) : Work → List Wire
  | .write x =>
    [.u8 kindWrite] ++ x.notice.wire
      ++ [.u8 (entryClass s x), .u8 (((findEntry s x).map (·.attempts)).getD 0)]
  | .read r t owned =>
    [.u8 kindRead] ++ r.subject.wire ++ (if owned then r.owner.wire else NoticeSubject.none.wire)
      ++ [.u8 r.owner.cls, .u8 t]

/-- IDLE or BUSY (R67). -/
def activityCode (op : Option Operation) : Nat := if op.isSome then 2 else 1

/-- Reads of a class that wait for a unit (R71). -/
def waitingReads (s : State) (u c : Nat) : Nat :=
  s.reads.countP fun r => decide (r.unit = u) && decide (r.owner.cls = c)

/-- One unit in UNIT-LIST (R71). R67 has an ABSENT position report its state alone, and R71 gives every position's reads
that wait: that an ABSENT position sends its state and then the two counts is the model's choice (log 14). -/
def unitReport (s : State) (u : Nat) : List Wire :=
  let x := unitAt s u
  [.u8 x.state.code]
    ++ (if x.state = .absent then []
      else [.u32 x.capacity, .u32 x.free, .u8 (activityCode x.op), .u8 x.failures, .u32 x.writeCount])
    ++ (match x.op with
      | some o => o.work.wire s ++ [.u32 (ticksLeft s o.limit o.sentAt)]
      | none => [])
    ++ [.u16 (waitingReads s u 1), .u16 (waitingReads s u 3)]

/-- UNIT-LIST (R71). -/
def execUnitList (r : Taken Unit) (s : State) : Answered :=
  .next (request (.unitList r) r (fun _ s => done s ((List.range 4).flatMap (unitReport s))) s)

/-- The states UNIT-STATE may set, numbered as R67 lists the states (R70). -/
def settableState : Nat → Option UnitState
  | 2 => some .online
  | 3 => some .readOnly
  | 4 => some .offline
  | _ => none

/-- R70's checks and effect. -/
def unitState (r : UnitStateReq) (s : State) : Checked := do
  ensure (decide (r.position ≤ 3)) .outOfRange
  let st ← lookup (settableState r.state) .malformed
  let before := (unitAt s r.position).state
  ensure (decide (before ≠ .absent)) .noSuch
  done (modifyUnit r.position
    (fun x => { x with state := st, failures := if before = .faulted then 0 else x.failures }) s)
    [.u8 before.code, .u8 st.code]

/-- UNIT-STATE (R70). -/
def execUnitState (r : Taken UnitStateReq) (s : State) : Answered := .next (request (.unitState r) r unitState s)

/-- The held classes as a set (R79, R198). -/
def heldClasses (s : State) : Wire := memberBits ((if s.held2 then [2] else []) ++ (if s.held3 then [3] else []))

/-- A hold set or cleared (R79). -/
def setHold (c : Nat) (on : Bool) (s : State) : State :=
  { s with held2 := if c = 2 then on else s.held2, held3 := if c = 3 then on else s.held3 }

/-- R79's check and effect. -/
def changeHold (on : Bool) (c : Nat) (s : State) : Checked := do
  ensure (decide (c = 2 ∨ c = 3)) .outOfRange
  let t := setHold c on s
  done t [heldClasses t]

/-- HOLD-CLASS (R79). -/
def execHoldClass (r : Taken Nat) (s : State) : Answered := .next (request (.holdClass r) r (changeHold true) s)

/-- RELEASE-CLASS (R79). -/
def execReleaseClass (r : Taken Nat) (s : State) : Answered :=
  .next (request (.releaseClass r) r (changeHold false) s)

/-- R87's check and effect. -/
def setCommitLimit (n : Nat) (s : State) : Checked := do
  ensure (decide (n = 2 ∨ n = 4 ∨ n = 8 ∨ n = 16)) .outOfRange
  done { s with commitLimit := n } [.u8 s.commitLimit, .u8 n]

/-- SET-COMMIT-LIMIT (R87). -/
def execSetCommitLimit (r : Taken Nat) (s : State) : Answered :=
  .next (request (.setCommitLimit r) r setCommitLimit s)

/-- PLATE, PHOTO or RESTORED (R86). -/
def EntrySubject.kindCode : EntrySubject → Nat
  | .plate _ => 1
  | .photo _ => 2
  | .restored _ => 3

/-- PENDING, or IN-FLIGHT with the unit and the ticks left (R86). -/
def Entry.progress (s : State) (e : Entry) : List Wire :=
  match e.inFlight with
  | none => [.u8 1]
  | some (u, sentAt) =>
    [.u8 2, .u8 u, .u32 (ticksLeft s (((unitAt s u).op.map (·.limit)).getD s.commitLimit) sentAt)]

/-- An entry in QUEUE-LIST (R86). -/
def Entry.report (s : State) (e : Entry) : List Wire :=
  let c := entryClass s e.subject
  e.subject.notice.wire ++ [.u8 e.subject.kindCode, .u8 c, flag (isHeld s c), .u32 e.extents, .u8 e.attempts,
    memberBits e.tried] ++ e.progress s

/-- QUEUE-LIST (R86). -/
def execQueueList (r : Taken Unit) (s : State) : Answered :=
  .next (request (.queueList r) r (fun _ s =>
    done s ([.u16 (reservedPlaces s), .u16 (freePlaces s)] ++ listOf (Entry.report s) s.queue)) s)

end Sys2Proof.Machine
end

