-- ==== Sys2Proof/Machine/Desk.lean ====
section
/-! DEFINITION. Desk fetches: FETCH, TICKET-LIST, the end of a ticket's delivery and its collect expiry (R98 to
R108, and the photo's part in R40). -/

namespace Sys2Proof.Machine

/-! ### FETCH -/

/-- A subject found STORED and ready for the ticket cases, with the plate number its replies carry. -/
structure FetchTarget where
  subject : Subject
  source : CopySource
  fields : List Wire
deriving DecidableEq, Repr

def copyOf : Nat → Option Copy
  | 1 => some .original
  | 2 => some .restored
  | _ => none

/-- The content-state cases of a plate (R99). The replies carry the plate number acted on. (Log 18.) -/
def plateTarget (s : State) (x : Resolved) (c : Copy) : Except ReplyBody FetchTarget :=
  let n : List Wire := [.u8 x.ref.plate]
  match x.plate.state with
  | .suppressed => refuse .suppressed n
  | .receiving | .queued | .committing => .error (.retry .commitPending .none n)
  | .incomplete | .failed => refuse .wrongState n
  | .stored =>
    match copySource s (.plate x.ref) c with
    | some src => .ok ⟨.plate x.ref, src, n⟩
    | none => refuse .noSuch n

/-- The cases of a photo (R40). -/
def photoTarget (s : State) (n : Nat) (c : Copy) : Except ReplyBody FetchTarget := do
  let p ← lookup (findPhoto s n) .noSuch
  ensure (decide (c = .original)) .noSuch
  ensure (!p.barred) .barred
  match p.state with
  | .receiving | .queued | .committing => .error (.retry .commitPending .none [])
  | .stored =>
    match copySource s (.photo n) .original with
    | some src => .ok ⟨.photo n, src, []⟩
    | none => refuse .wrongState []
  | _ => refuse .wrongState []

/-- The request's own checks and the subject's cases (R98, R99, R40). -/
def fetchTarget (s : State) (x : SubjectReq) (c : Copy) : Except ReplyBody FetchTarget :=
  match x with
  | .neither => refuse .malformed []
  | .photo n => photoTarget s n c
  | .plate p => do
    ensure (decide (p.plate = latest ∨ (p.plate ≠ 0 ∧ p.plate ≤ 8))) .outOfRange
    let y ← resolved (resolve s p)
    plateTarget s y c

/-- A ticket's content goes out: its collect timer stops and the stream carries the frames and DONE (R105). -/
def deliverTicket (tag : Nat) (t : Ticket) (s : State) : State :=
  let fields := [.u8 t.number] ++ t.subject.wire ++ [.u8 t.copy.code, .u32 t.source.size, wireCheck t.source.check]
  { modifyTicket t.number (fun t => { t with state := .ready none }) s with
    outbound := .sending (.ticket t.number) (deliveryFrames tag t.content fields) }

/-- A ticket is created, and its class 1 read (R102); a read that cannot be made fails at once (R104). -/
def createTicket (x : FetchTarget) (c : Copy) (s : State) : Nat × State :=
  let n := freeNumber s.nextTicket (s.tickets.map (·.number))
  let k := slabsFor x.source.size
  let t := takeSlabs k { s with
    tickets := s.tickets ++ [⟨n, x.subject, c, .pending, x.source, grantedSlabs k s, []⟩]
    nextTicket := numberAfter n }
  let t := addRead (readOf (.ticket n) x.subject c x.source) t
  (n, drain (failIfUnreadable s (.ticket n) x.source.loc.unit) t)

/-- The ticket with a subject and copy; at most one has them (R96). -/
def ticketOn (s : State) (x : Subject) (c : Copy) : Option Ticket :=
  s.tickets.find? fun t => decide (t.subject = x) && decide (t.copy = c)

/-- The ticket cases (R100 to R102). -/
def fetchTicket (tag : Nat) (x : FetchTarget) (c : Copy) (s : State) : Checked :=
  match ticketOn s x.subject c with
  | some t =>
    match t.state with
    | .ready _ => .ok (deliverTicket tag t s, none)
    | _ => .ok (s, some (.retry .notReady (.ticket t.number) x.fields))
  | none =>
    if Config.ticketRoom ≤ s.tickets.length then .error (.retry .ticketsFull .none x.fields)
    else if canGrant s (slabsFor x.source.size) = false then .error (.retry .noRoom .none x.fields)
    else
      let y := createTicket x c s
      .ok (y.2, some (.retry .notReady (.ticket y.1) x.fields))

/-- R98's course. -/
def fetchContent (tag : Nat) (r : FetchReq) (s : State) : Checked := do
  ensure (decide (r.subject ≠ .neither)) .malformed
  let c ← lookup (copyOf r.copy) .malformed
  let x ← fetchTarget s r.subject c
  fetchTicket tag x c s

/-- FETCH (R98). -/
def execFetch (r : Taken FetchReq) (s : State) : Answered := .next (request (.fetch r) r (fetchContent r.tag) s)

/-! ### The end of a ticket -/

/-- The frames of a delivery have been sent and the stream is IDLE (R199). -/
def endStream (frames : List OutFrame) (s : State) : State :=
  { s with linkOut := s.linkOut ++ frames, outbound := .idle }

/-- TICKET_DELIVERY_END (R105). -/
def execTicketDeliveryEnd (s : State) : Answered :=
  .next <|
    match s.outbound with
    | .sending (.ticket n) frames =>
      let t := endStream frames s
      match findTicket t n with
      | some x => drain [] (freeTicket x t)
      | none => t
    | _ => s

/-- TICKET_COLLECT_EXPIRY (R106). -/
def execTicketCollectExpiry (n : Nat) (s : State) : Answered :=
  .next <|
    match findTicket s n with
    | none => s
    | some t =>
      match t.state with
      | .ready (some start) =>
        if due s ticketSeconds start then
          drain [] (raise .ticketExpired (.ticket n) (t.subject.wire ++ [.u8 t.copy.code]) (freeTicket t s))
        else s
      | _ => s

/-! ### TICKET-LIST -/

/-- A ticket in TICKET-LIST (R108). -/
def Ticket.report (s : State) (t : Ticket) : List Wire :=
  [.u8 t.number] ++ t.subject.wire ++ [.u8 t.copy.code, .u8 t.state.code, .u32 t.source.size, .u32 t.slabs.length,
    .u8 t.source.loc.unit, .u8 (unitAt s t.source.loc.unit).state.code]
    ++ (match t.state with
      | .pending => []
      | .reading => [.u8 (readTry s (.ticket t.number))]
      | .ready timer => [.u32 ((timer.map (ticksLeft s ticketSeconds)).getD 0)])

/-- TICKET-LIST (R108). -/
def execTicketList (r : Taken Unit) (s : State) : Answered :=
  .next (request (.ticketList r) r (fun _ s =>
    done s ([.u16 s.tickets.length, .u8 s.nextTicket, .u32 s.free, .u32 (roomUnderReserve s)]
      ++ listOf (Ticket.report s) s.tickets)) s)

end Sys2Proof.Machine
end

