-- ==== Sys2Proof/Machine/Tile.lean ====
section
/-! DEFINITION. The tile computation (R129 to R144): histogram and points, flat test, stretch, despeckle,
tone, and the kind of the tile written. A tile is its 4,096 pixels in row-major order (R130). -/

namespace Sys2Proof.Machine

/-- Bytes of a tile (R130). -/
def tileBytes : Nat := 4096

/-- The percentile count of p percent: max(1, ceil(4,096 × p / 100)) (R132). -/
def percentileCount (p : Nat) : Nat := max 1 ((1024 * p + 24) / 25)

/-- Pixels whose value is v or less (R131). -/
def cumulative (px : List Nat) (v : Nat) : Nat := px.countP fun x => decide (x ≤ v)

/-- The smallest value from v on whose cumulative count reaches k; the first argument is how many values
are left to try (R133). -/
def pointFrom (px : List Nat) (k : Nat) : Nat → Nat → Nat
  | 0, v => v
  | n + 1, v => if k ≤ cumulative px v then v else pointFrom px k n (v + 1)

/-- The smallest grey value with a cumulative count of at least k (R133). -/
def greyPoint (px : List Nat) (k : Nat) : Nat := pointFrom px k 255 0

/-- The stretched value of a pixel between black point b and white point w (R135). -/
def stretch (b w x : Nat) : Nat :=
  if x ≤ b then 0
  else if w ≤ x then 255
  else ((x - b) * 510 + (w - b)) / (2 * (w - b))

/-- The positions above, below, left and right of (r, c) within the tile (R136). -/
def neighbours (r c : Nat) : List (Nat × Nat) :=
  (if 0 < r then [(r - 1, c)] else []) ++ (if r < 63 then [(r + 1, c)] else [])
    ++ (if 0 < c then [(r, c - 1)] else []) ++ (if c < 63 then [(r, c + 1)] else [])

/-- The value at (r, c) of a tile (R130). -/
def pixelAt (a : Array Nat) (r c : Nat) : Nat := a.getD (r * 64 + c) 0

/-- A dark speck: every neighbour exceeds it by more than T (R137). -/
def darkSpeck (t s : Nat) (near : List Nat) : Bool := near.all fun x => decide (s + t < x)

/-- A light speck: it exceeds every neighbour by more than T (R137). -/
def lightSpeck (t s : Nat) (near : List Nat) : Bool := near.all fun x => decide (x + t < s)

def insertSorted (x : Nat) : List Nat → List Nat
  | [] => [x]
  | y :: l => if x ≤ y then x :: y :: l else y :: insertSorted x l

def sorted : List Nat → List Nat
  | [] => []
  | x :: l => insertSorted x (sorted l)

/-- The median of a pixel's neighbours, by their number (R138). -/
def median (near : List Nat) : Nat :=
  match sorted near with
  | [_, b, c, _] => (b + c) / 2
  | [_, b, _] => b
  | [a, b] => (a + b) / 2
  | [a] => a
  | _ => 0

/-- The value of (r, c) after despeckle, and whether it was a speck, judged against the stretched values
before any replacement (R136, R137, R138). -/
def despeckled (t : Nat) (a : Array Nat) (r c : Nat) : Nat × Bool :=
  let s := pixelAt a r c
  let near := (neighbours r c).map fun p => pixelAt a p.1 p.2
  if darkSpeck t s near || lightSpeck t s near then (median near, true) else (s, false)

/-- The three kinds of a written tile (R140). -/
inductive TileKind where
  | flat
  | repaired
  | clean
deriving DecidableEq, Repr

/-- A tile's outcome: its output bytes, its kind and its speck count. -/
structure TileResult where
  out : List Byte
  kind : TileKind
  specks : Nat
deriving DecidableEq, Repr

/-- The tone table's entry for a value, as an output byte (R139). -/
def toneByte (p : Profile) (v : Nat) : Byte := BitVec.ofNat 8 (p.tone.getD v 0)

/-- The positions of a tile in row-major order. -/
def tilePositions : List (Nat × Nat) := (List.range tileBytes).map fun k => (k / 64, k % 64)

/-- A tile computed under a profile copy (R131 to R140, R143). -/
def computeTile (p : Profile) (input : List Byte) : TileResult :=
  let px := input.map (·.toNat)
  let b := greyPoint px (percentileCount p.pLo)
  let w := greyPoint px (percentileCount p.pHi)
  if w - b < p.sMin then ⟨px.map (toneByte p), .flat, 0⟩
  else
    let a := (px.map (stretch b w)).toArray
    let after := tilePositions.map fun rc => despeckled p.threshold a rc.1 rc.2
    let specks := after.countP (·.2)
    ⟨after.map (fun v => toneByte p v.1), if b = 0 ∧ w = 255 ∧ specks = 0 then .clean else .repaired, specks⟩

/-- The bytes of tile t of a raster (R130). -/
def tileOf (raster : List Byte) (t : Nat) : List Byte := (raster.drop (t * tileBytes)).take tileBytes

/-- A job's counts and output after a tile is written (R140, R141). -/
def Job.addTile (j : Job) (x : TileResult) : Job :=
  { j with
    tilesDone := j.tilesDone + 1
    flat := j.flat + (if x.kind = .flat then 1 else 0)
    repaired := j.repaired + (if x.kind = .repaired then 1 else 0)
    specks := j.specks + (if x.kind = .repaired then x.specks else 0)
    output := j.output ++ x.out }

end Sys2Proof.Machine
end

