-- ==== Sys2Proof/Machine/Restoration.lean ====
section
/-! DEFINITION. The Restoration Queue's requests and the Repair Engine's tile (R110 to R128, R141). -/

namespace Sys2Proof.Machine

/-! ### RESTORE -/

/-- The priorities a host may ask for, numbered as R114 lists them (R116). -/
def hostPriority : Nat → Option Priority
  | 1 => some .desk
  | 3 => some .routine
  | _ => none

/-- A priority asked for that is higher than the job's is taken (R117). -/
def Priority.raisedTo (asked : Priority) : Priority → Priority
  | .desk => .desk
  | .order => if asked = .desk then .desk else .order
  | .routine => asked

/-- The host joins a job (R117). -/
def joinJob (j : Job) (prio : Priority) (s : State) : State :=
  drain [] (modifyJob j.number
    (fun j => { j with hostInterest := true, priority := prio.raisedTo j.priority }) s)

/-- The host creates a job (R117), which may fetch at once (R119). -/
def createJob (r : PlateRef) (profile : Nat) (prio : Priority) (s : State) : Nat × State :=
  let x := addJob r profile prio none true [] s
  (x.1, drain [] x.2)

/-- R116's checks and R117's outcomes: JOINED 1, ALREADY 2, CREATED 3. JOINED reports the state in which the host joins the
job, as R117 does not say whether a job that then enters FETCHING reports that: the model's choice (log 32). -/
def restorePlate (r : RestoreReq) (s : State) : Checked := do
  let x ← resolved (resolve s r.plate)
  ensure (decide (r.profile ≤ 7)) .outOfRange
  let prio ← lookup (hostPriority r.priority) .malformed
  ensure (decide (x.edition.source = .scan)) .wrongSource
  ensure (decide (x.plate.state ≠ .suppressed)) .suppressed
  ensure (decide (x.plate.state = .stored)) .wrongState
  match jobOn s x.ref with
  | some j =>
    if j.profile = r.profile then done (joinJob j prio s) [.u8 1, .u8 j.number, .u8 j.state.code]
    else refuse .plateBusy []
  | none =>
    match x.plate.restored.filter fun c => decide (c.profile = r.profile) with
    | some c => done s [.u8 2, .u8 c.profile, .u16 c.repaired, .u16 c.flat]
    | none =>
      if boundAgainst s x.ref r.profile [] then refuse .plateBusy []
      else if Config.jobRoom ≤ s.jobs.length then refuse .tableFull []
      else
        let y := createJob x.ref r.profile prio s
        done y.2 [.u8 3, .u8 y.1]

/-- RESTORE (R116). -/
def execRestore (r : Taken RestoreReq) (s : State) : Answered := .next (request (.restore r) r restorePlate s)

/-! ### JOB-INFO -/

/-- A job's creator (R114, R128). R198 gives it no encoding: that HOST goes as a subject of kind 0 and an order item as one
of kind 6 is the model's choice (log 14). -/
def creatorWire : Option (Nat × Nat) → List Wire
  | none => NoticeSubject.none.wire
  | some (o, i) => NoticeSubject.wire (.item o i)

/-- A job's waiting item, its order and item number; that they go as two bytes is the model's choice (log 14). -/
def itemNumbers (x : Nat × Nat) : List Wire := [.u8 x.1, .u8 x.2]

/-- The unit and try of a FETCHING job's read (R128). -/
def jobRead (s : State) (j : Job) : List Wire :=
  [.u8 (((findPlate s j.plate).bind fun p => p.location.map (·.unit)).getD 0), .u8 (readTry s (.job j.number))]

/-- What JOB-INFO adds by the job's state, before the counts (R128). -/
def Job.stage (s : State) (j : Job) : List Wire :=
  match j.state with
  | .fetching => flag j.landed :: (if j.landed then [] else jobRead s j)
  | .repairing => [.u32 (elapsed s j.entered)]
  | _ => []

/-- What JOB-INFO adds for a COMMITTING job, after the slabs (R128). -/
def Job.commitStage (s : State) (j : Job) : List Wire :=
  match j.state, j.stored with
  | .committing, some l => [flag true, .u8 l.unit, .u16 (copyHold s j.plate)]
  | .committing, none =>
    match findEntry s (.restored j.number) with
    | some e => [flag false, .u8 e.attempts, memberBits e.tried]
    | none => [flag false, .u8 0, memberBits []]
  | _, _ => []

/-- The tile count of a job's plate. -/
def jobTiles (s : State) (j : Job) : Nat := ((findPlate s j.plate).map Plate.tileCount).getD 0

/-- A job in JOB-INFO with a number (R128). -/
def jobReport (s : State) (j : Job) : List Wire :=
  [.u8 j.number] ++ Subject.wire (.plate j.plate) ++ [.u8 j.profile, .u8 j.priority.code, .u8 j.state.code]
    ++ creatorWire j.creator ++ [flag j.hostInterest] ++ listOf itemNumbers j.waiting ++ j.stage s
    ++ [.u16 j.tilesDone, .u16 (jobTiles s j), .u16 j.repaired, .u16 j.flat, .u32 j.specks,
      .u32 j.inputSlabs.length, .u32 j.outputSlabs.length] ++ j.commitStage s

/-- A job in JOB-INFO's list (R128). -/
def jobBrief (j : Job) : List Wire :=
  [.u8 j.number] ++ Subject.wire (.plate j.plate)
    ++ [.u8 j.profile, .u8 j.priority.code, .u8 j.state.code, .u16 j.tilesDone]

def jobInfo (n : Option Nat) (s : State) : Checked :=
  match n with
  | some n =>
    match findJob s n with
    | none => refuse .noSuch []
    | some j => done s (jobReport s j)
  | none =>
    done s ([.u16 s.jobs.length, .u8 s.nextJob, flag s.engine.isNone] ++ listOf jobBrief (queueOrder s))

/-- JOB-INFO (R128). -/
def execJobInfo (r : Taken (Option Nat)) (s : State) : Answered := .next (request (.jobInfo r) r jobInfo s)

/-! ### CANCEL-JOB -/

/-- R126's checks and effect. JOB-FAILED comes before the items' notices. (Log 19.) -/
def cancelJob (n : Nat) (s : State) : Checked := do
  ensure (decide (n ≠ 0 ∧ n ≤ 255)) .outOfRange
  let j ← lookup (findJob s n) .noSuch
  ensure (decide (j.state ≠ .committing)) .tooLate
  let x := failJobNow n .cancelled .jobCancelled s
  done (drain x.2 x.1) [.u8 j.state.code, .u16 j.waiting.length]

/-- CANCEL-JOB (R126). -/
def execCancelJob (r : Taken Nat) (s : State) : Answered := .next (request (.cancelJob r) r cancelJob s)

/-! ### SET-PROFILE, TONE-TABLE -/

/-- A change of a profile of the store. -/
def modifyProfile (k : Nat) (f : Profile → Profile) (s : State) : State := { s with profiles := s.profiles.modify k f }

/-- The numeric fields as stored: an S_min of 0 as 1 (R111). -/
def Profile.setFields (r : ProfileReq) (p : Profile) : Profile :=
  { p with pLo := r.pLo, pHi := r.pHi, sMin := max 1 r.sMin, threshold := r.threshold }

/-- R111's checks and effect. -/
def setProfile (r : ProfileReq) (s : State) : Checked := do
  ensure (decide (r.profile ≤ 7)) .outOfRange
  ensure (decide (r.pLo ≤ 49)) .outOfRange
  ensure (decide (51 ≤ r.pHi ∧ r.pHi ≤ 100)) .outOfRange
  done (modifyProfile r.profile (Profile.setFields r) s)
    [.u8 r.profile, .u8 r.pLo, .u8 r.pHi, .u8 (max 1 r.sMin), .u8 r.threshold]

/-- SET-PROFILE (R111). -/
def execSetProfile (r : Taken ProfileReq) (s : State) : Answered := .next (request (.setProfile r) r setProfile s)

/-- R112's checks and effect. -/
def setTone (r : ToneReq) (s : State) : Checked := do
  ensure (decide (r.profile ≤ 7)) .outOfRange
  ensure (decide (r.entries.length = 256)) .malformed
  done (modifyProfile r.profile (fun p => { p with tone := r.entries.map (·.toNat) }) s)
    [.u8 r.profile, wireCheck (crc32 r.entries)]

/-- TONE-TABLE (R112). -/
def execToneTable (r : Taken ToneReq) (s : State) : Answered := .next (request (.toneTable r) r setTone s)

/-! ### TILE_WRITTEN -/

/-- REPAIRING ends: the input slabs return and the engine is FREE; the job is REPAIRED until it takes a place
(R122). -/
def endRepair (j : Job) (s : State) : State :=
  let s := returnSlabs j.inputSlabs
    (modifyJob j.number (fun j => { j with state := .repaired, inputSlabs := [], input := [] }) s)
  drain [] { s with engine := none }

/-- A job's tile at the cursor, computed by its profile copy (R121, R129). -/
def tileResult (j : Job) (cursor : Nat) : TileResult :=
  computeTile (j.profileCopy.getD factoryProfile) (tileOf j.input cursor)

/-- A tile is written: its bytes into the job's output slabs, its outcome into the job's counts (R92, R140, R141). They go in
whole at this moment: that a tile abandoned before it leaves nothing in the slabs, where R142 has "whatever" it left, is the
model's choice (log 12). -/
def writeTile (j : Job) (cursor : Nat) (s : State) : State :=
  let x := tileResult j cursor
  stage j.outputSlabs (cursor * tileBytes) x.out (modifyJob j.number (fun j => j.addTile x) s)

/-- TILE_WRITTEN (R141). -/
def execTileWritten (s : State) : Answered :=
  .next <|
    match s.engine with
    | none => s
    | some w =>
      match findJob s w.job with
      | none => s
      | some j =>
        let t := writeTile j w.cursor s
        if w.cursor + 1 < jobTiles s j then { t with engine := some ⟨w.job, w.cursor + 1⟩ }
        else endRepair j t

end Sys2Proof.Machine
end

