-- ==== Sys2Proof/Machine/Orders.lean ====
section
/-! DEFINITION. The Order Book's requests, the end of an item's delivery and its collect expiry (R41, R147 to
R151, R160, R161, R163, R165, R169). -/

namespace Sys2Proof.Machine

/-! ### Examining an item -/

def productOf : Nat → Option Product
  | 1 => some .pagePrint
  | 2 => some .pageFile
  | 3 => some .photoPrint
  | 4 => some .photoFile
  | _ => none

/-- An item as PLACE-ORDER examines it, with what its snapshot takes (R169): the parts of its product's line,
the subject's day and the photo's rights. -/
def newItem (line : TariffLine) (years : Nat) (p : Product) (x : Subject) (c : Choice) (b : Bound) (made : Bool)
    (fee holder share : Nat) : ItemRec :=
  ⟨p, x, c, b, made, ⟨line.base, years, line.ageRate, line.tileRate, line.cap, fee, holder, share⟩,
    false, false, .pending, [], none, none, []⟩

/-- A check of one item; its failure gives the reason. -/
def need (b : Bool) (r : Reason) : Except Reason Unit := if b then .ok () else .error r

/-- A lookup of one item. -/
def found {α : Type} (o : Option α) (r : Reason) : Except Reason α :=
  match o with
  | some a => .ok a
  | none => .error r

/-- A photo item (R41). -/
def photoItem (s : State) (p : Product) (n choice : Nat) : Except Reason ItemRec := do
  need p.isPhoto .malformed
  let x ← found (findPhoto s n) .noSuch
  need (decide (choice = 1)) .wrongSource
  need (!x.barred) .barred
  need (decide (x.state = .stored)) .wrongState
  need (!x.embargoed (today s + 30)) .embargoed
  return newItem (s.tariff.line p) (ageYears (today s) x.photoDay) p (.photo n) .none .original false
    x.fee x.holder x.share

/-- A restoration choice as the request carries it (R148, step 2); the profile number is read with PROFILE only (log 36). -/
def choiceOf (choice profile : Nat) : Except Reason Choice :=
  match choice with
  | 1 => .ok .none
  | 2 => .ok .auto
  | 3 => if profile ≤ 7 then .ok (.profile profile) else .error .outOfRange
  | _ => .error .malformed

/-- The profile a choice asks for, AUTO resolved by the edition's grade (R148, step 6). -/
def chosenProfile (e : Edition) : Choice → Option Nat
  | .none => none
  | .auto => if 2 ≤ e.grade then some e.profile else none
  | .profile p => some p

/-- The conflict test of R149. -/
def conflicts (s : State) (r : PlateRef) (q : Nat) (earlier : List (Subject × Bound)) : Bool :=
  ((jobOn s r).any fun j => decide (j.profile ≠ q)) || boundAgainst s r q earlier

/-- A plate item (R148 to R150). R148 answers every failure to resolve NO-SUCH. (Log 17.) -/
def plateItem (s : State) (earlier : List (Subject × Bound)) (p : Product) (r : PlateReq) (choice profile : Nat) :
    Except Reason ItemRec := do
  need (!p.isPhoto) .malformed
  let c ← choiceOf choice profile
  let x ← found (resolve s r).toOption .noSuch
  need (decide (x.edition.source = .scan) || decide (c = .none)) .wrongSource
  need (decide (x.plate.state ≠ .suppressed)) .suppressed
  need (decide (x.plate.state = .stored)) .wrongState
  let item := newItem (s.tariff.line p) (ageYears (today s) x.edition.day) p (.plate x.ref) c
  match chosenProfile x.edition c with
  | none => return item .original false 0 0 0
  | some q => do
    need (!conflicts s x.ref q earlier) .plateBusy
    return item (.restored q) (decide (x.plate.restored.map (·.profile) ≠ some q)) 0 0 0

/-- One item of PLACE-ORDER (R147, step 5). -/
def examineItem (s : State) (earlier : List (Subject × Bound)) (i : ItemReq) : Except Reason ItemRec := do
  let p ← found (productOf i.product) .malformed
  match i.subject with
  | .neither => .error .malformed
  | .photo n => photoItem s p n i.choice
  | .plate r => plateItem s earlier p r i.choice i.profile

/-- The items in list order; the first that fails gives its number and reason (R147, step 5). -/
def examineItems (s : State) : List ItemRec → List ItemReq → Except ReplyBody (List ItemRec)
  | l, [] => .ok l
  | l, i :: rest =>
    match examineItem s (l.map fun x => (x.subject, x.bound)) i with
    | .error r => .error (.refused r [.u8 (l.length + 1)])
    | .ok x => examineItems s (l ++ [x]) rest

/-! ### PLACE-ORDER -/

/-- An item in the reply to PLACE-ORDER (R151). R151 carries the plate number "where it names a plate"; that no presence byte
goes before it, the request having named the subject's kind, is the model's choice (log 14). -/
def ItemRec.accepted (x : ItemRec) : List Wire :=
  (match x.subject with
    | .plate r => [.u8 r.plate]
    | .photo _ => []) ++ x.bound.wire ++ [flag x.toBeMade]

/-- The order is created; its first item becomes active (R151). -/
def acceptOrder (a : Account) (items : List ItemRec) (s : State) : Nat × State :=
  let n := freeNumber s.nextOrder (s.orders.map (·.number))
  let sum := reservationOf items a.tier
  let o : OrderRec := ⟨n, a.number, sum, a.tier, items, (List.range items.length).map (· + 1), s.timeBase⟩
  let t := modifyAccount a.number (fun a => { a with reserved := a.reserved + sum }) s
  (n, drain [.activate n] { t with orders := t.orders ++ [o], nextOrder := numberAfter n })

/-- R147's checks and R151's effect. -/
def placeOrder (r : PlaceOrderReq) (s : State) : Checked := do
  ensure s.date.isSome .dateUnset
  ensure (decide (r.items ≠ [] ∧ r.items.length ≤ 8)) .malformed
  ensure (decide (r.account ≤ 255)) .outOfRange
  let a ← lookup (findAccount s r.account) .noSuch
  ensure (!a.suspended) .accountSuspended
  ensure (decide (s.orders.length < Config.orderRoom)) .tableFull
  let items ← examineItems s [] r.items
  let sum := reservationOf items a.tier
  if a.available < (sum : Int) then refuse .funds [.u32 sum, .s32 a.available]
  else
    let x := acceptOrder a items s
    done x.2 ([.u8 x.1, .u32 sum] ++ listOf ItemRec.accepted items)

/-- PLACE-ORDER (R147). -/
def execPlaceOrder (r : Taken PlaceOrderReq) (s : State) : Answered := .next (request (.placeOrder r) r placeOrder s)

/-! ### ORDER-INFO -/

/-- What ORDER-INFO adds for an item by its state (R165). R198 names no width for a place in the slab-wait list, which is no
count: that it has 2 bytes, behind a presence byte and counted from 1, is the model's choice (log 14). -/
def ItemRec.stage (s : State) (o i : Nat) (x : ItemRec) : List Wire :=
  match x.state with
  | .waitRestore job => optional (fun n => [.u8 n]) job
  | .pending => optional (fun k => [.u16 (k + 1)]) (s.slabWait.findIdx? fun y => decide (y = (o, i)))
  | .fetching => [.u8 ((x.source.map (·.loc.unit)).getD 0), .u8 (readTry s (.item o i))]
  | .ready timer =>
    [.u32 ((x.source.map (·.size)).getD 0), .u32 x.slabs.length, .u32 ((timer.map (ticksLeft s itemSeconds)).getD 0)]
  | _ => []

/-- An item in ORDER-INFO (R165). -/
def itemReport (s : State) (o : Nat) (y : Nat × ItemRec) : List Wire :=
  let x := y.2
  [.u8 x.product.code] ++ x.subject.wire ++ x.choice.wire ++ x.bound.wire
    ++ [flag x.toBeMade, flag x.causedRepair, .u8 x.state.code] ++ x.stage s o y.1
    ++ (match x.bound with
      | .restored _ => optional (fun n => [.u16 n]) x.copyTiles
      | .original => [])
    ++ (match x.state with
      | .cancelled reason => [.u8 reason.code]
      | _ => [])

/-- The items with their numbers, from 1. -/
def OrderRec.numbered (x : OrderRec) : List (Nat × ItemRec) := x.items.zipIdx.map fun y => (y.2 + 1, y.1)

/-- An order in ORDER-INFO with a number (R165). -/
def orderReport (s : State) (x : OrderRec) : List Wire :=
  [.u8 x.number, .u8 x.account, .u32 x.reservation, .u16 x.discount, wireTick x.acceptedAt]
    ++ listOf (fun i => [.u8 i]) x.turn ++ listOf (itemReport s x.number) x.numbered

/-- An order in ORDER-INFO's list: its items counted by state (R165). -/
def orderBrief (x : OrderRec) : List Wire :=
  [.u8 x.number, .u8 x.account, .u32 x.reservation, .u16 x.items.length]
    ++ (List.range 7).map fun c => .u16 (x.items.countP fun i => decide (i.state.code = c + 1))

def orderInfo (n : Option Nat) (s : State) : Checked :=
  match n with
  | some n => do
    ensure (decide (n ≠ 0 ∧ n ≤ 255)) .outOfRange
    let x ← lookup (findOrder s n) .noSuch
    done s (orderReport s x)
  | none =>
    done s ([.u16 s.orders.length, .u8 s.nextOrder, .u16 s.slabWait.length, .u16 s.restoreWait.length]
      ++ listOf orderBrief s.orders)

/-- ORDER-INFO (R165). -/
def execOrderInfo (r : Taken (Option Nat)) (s : State) : Answered := .next (request (.orderInfo r) r orderInfo s)

/-! ### COLLECT -/

/-- The fields of a COLLECT's DONE (R160). -/
def ItemRec.delivered (o i : Nat) (x : ItemRec) : List Wire :=
  [.u8 o, .u8 i, .u8 x.product.code] ++ x.subject.wire ++ x.bound.wire
    ++ [.u32 ((x.source.map (·.size)).getD 0), wireCheck ((x.source.map (·.check)).getD 0)]

/-- A READY item's content goes out (R160). -/
def deliverItem (tag o i : Nat) (x : ItemRec) (s : State) : State :=
  { setItemState o i (.ready none) s with
    outbound := .sending (.item o i) (deliveryFrames tag x.content (x.delivered o i)) }

/-- R160's checks and its answer by the item's state. -/
def collect (tag : Nat) (r : CollectReq) (s : State) : Checked := do
  ensure (decide (r.order ≠ 0 ∧ r.order ≤ 255 ∧ r.item ≠ 0 ∧ r.item ≤ 8)) .outOfRange
  let o ← lookup (findOrder s r.order) .noSuch
  let x ← lookup (o.item r.item) .noSuch
  match x.state with
  | .ready _ => .ok (deliverItem tag r.order r.item x s, none)
  | .collected => refuse .wrongState [.u8 x.state.code]
  | .cancelled reason => refuse .wrongState [.u8 x.state.code, .u8 reason.code]
  | _ => .ok (s, some (.retry .notReady (.order r.order) [.u8 x.state.code]))

/-- COLLECT (R160). -/
def execCollect (r : Taken CollectReq) (s : State) : Answered := .next (request (.collect r) r (collect r.tag) s)

/-- The item is COLLECTED: its slabs return, and the order settles when it was the last (R160, R164). -/
def collectItem (o i : Nat) (s : State) : State :=
  match findItem s o i with
  | none => s
  | some x => settleIfDone o (modifyItem o i (ItemRec.finish .collected) (returnSlabs x.slabs s))

/-- ITEM_DELIVERY_END (R160). -/
def execItemDeliveryEnd (s : State) : Answered :=
  .next <|
    match s.outbound with
    | .sending (.item o i) frames => drain [] (collectItem o i (endStream frames s))
    | _ => s

/-- ITEM_COLLECT_EXPIRY (R161). -/
def execItemCollectExpiry (o i : Nat) (s : State) : Answered :=
  .next <|
    match findItem s o i with
    | none => s
    | some x =>
      match x.state with
      | .ready (some start) =>
        if due s itemSeconds start then
          let x := cancelItem o i .expired s
          drain x.2 x.1
        else s
      | _ => s

/-! ### CANCEL-ORDER -/

/-- The live items of an order, in list order (R163). -/
def liveItems (x : OrderRec) : List Nat :=
  ((List.range x.items.length).map (· + 1)).filter fun i => (x.item i).any ItemRec.live

/-- R163's checks and effect. -/
def cancelOrder (n : Nat) (s : State) : Checked := do
  ensure (decide (n ≠ 0 ∧ n ≤ 255)) .outOfRange
  let x ← lookup (findOrder s n) .noSuch
  let w := drainTally ((liveItems x).map fun i => .cancel n i .orderCancelled) s
  done w.state [.u16 w.cancelled, .u16 x.settlement.collected, .u32 x.settlement.charge]

/-- CANCEL-ORDER (R163). -/
def execCancelOrder (r : Taken Nat) (s : State) : Answered := .next (request (.cancelOrder r) r cancelOrder s)

end Sys2Proof.Machine
end

