-- ==== Sys2Proof/Machine/Accounts.lean ====
section
/-! DEFINITION. The Tariff Unit's requests: tariff lines, accounts, holders and revenue (R168, R181 to R189). -/

namespace Sys2Proof.Machine

/-! ### SET-TARIFF -/

/-- R168's check and effect. -/
def setTariff (r : TariffReq) (s : State) : Checked := do
  let p ← lookup (productOf r.product) .malformed
  let l := clampLine r.base r.ageRate r.tileRate r.cap
  done { s with tariff := s.tariff.setLine p l } [.u8 p.code, .u32 l.base, .u8 l.ageRate, .u16 l.tileRate, .u32 l.cap]

/-- SET-TARIFF (R168). -/
def execSetTariff (r : Taken TariffReq) (s : State) : Answered := .next (request (.setTariff r) r setTariff s)

/-! ### Accounts -/

/-- R181's checks and effect. -/
def openAccount (r : AccountTermsReq) (s : State) : Checked := do
  ensure (decide (r.account ≤ 255)) .outOfRange
  ensure (decide (r.limit ≤ 100000000)) .outOfRange
  ensure (findAccount s r.account).isNone .duplicate
  let tier := min r.tier 250
  done { s with accounts := s.accounts ++ [⟨r.account, false, 0, r.limit, tier, 0⟩] }
    [.u8 r.account, .u32 r.limit, .u16 tier]

/-- ACCOUNT-OPEN (R181). -/
def execAccountOpen (r : Taken AccountTermsReq) (s : State) : Answered :=
  .next (request (.accountOpen r) r openAccount s)

/-- The range of a balance (R180). -/
def balanceInRange (b : Int) : Bool := decide (-2000000000 ≤ b ∧ b ≤ 2000000000)

/-- R182's checks and effect. -/
def creditAccount (r : AccountCreditReq) (s : State) : Checked := do
  ensure (decide (r.account ≤ 255)) .outOfRange
  let a ← lookup (findAccount s r.account) .noSuch
  let b : Account := { a with balance := a.balance + r.adjustment }
  ensure (balanceInRange b.balance) .outOfRange
  ensure (decide (0 ≤ b.available)) .outOfRange
  done (modifyAccount r.account (fun a => { a with balance := b.balance }) s) [.s32 b.balance, .s32 b.available]

/-- ACCOUNT-CREDIT (R182). -/
def execAccountCredit (r : Taken AccountCreditReq) (s : State) : Answered :=
  .next (request (.accountCredit r) r creditAccount s)

/-- R183's checks and effect. -/
def limitAccount (r : AccountTermsReq) (s : State) : Checked := do
  ensure (decide (r.account ≤ 255)) .outOfRange
  let a ← lookup (findAccount s r.account) .noSuch
  ensure (decide (r.limit ≤ 100000000)) .outOfRange
  let b : Account := { a with limit := r.limit, tier := min r.tier 250 }
  ensure (decide (0 ≤ b.available)) .funds
  done (modifyAccount r.account (fun a => { a with limit := b.limit, tier := b.tier }) s)
    [.u32 b.limit, .u16 b.tier, .s32 b.available]

/-- ACCOUNT-LIMIT (R183). -/
def execAccountLimit (r : Taken AccountTermsReq) (s : State) : Answered :=
  .next (request (.accountLimit r) r limitAccount s)

/-- ACTIVE 1, SUSPENDED 2 (R180, R184). -/
def suspendedOf : Nat → Option Bool
  | 1 => some false
  | 2 => some true
  | _ => none

/-- R184's checks and effect. -/
def setAccountState (r : AccountStateReq) (s : State) : Checked := do
  ensure (decide (r.account ≤ 255)) .outOfRange
  let b ← lookup (suspendedOf r.state) .malformed
  let a ← lookup (findAccount s r.account) .noSuch
  done (modifyAccount r.account (fun a => { a with suspended := b }) s)
    [.u8 (accountStateCode a.suspended), .u8 (accountStateCode b)]

/-- ACCOUNT-STATE (R184). -/
def execAccountState (r : Taken AccountStateReq) (s : State) : Answered :=
  .next (request (.accountState r) r setAccountState s)

/-- An account's report: its open orders are a list of their numbers in acceptance order (R185). The model's choices:
reserved, whose width R198 does not name, is an unsigned sum of 4 bytes as a reservation is, and the count of open
orders is the list's own (log 14). -/
def accountReport (s : State) (a : Account) : List Wire :=
  [.u8 a.number, .u8 (accountStateCode a.suspended), .s32 a.balance, .u32 a.limit, .u16 a.tier, .u32 a.reserved,
    .s32 a.available]
    ++ listOf (fun o : OrderRec => [.u8 o.number]) (s.orders.filter fun o => decide (o.account = a.number))

def accountInfo (n : Nat) (s : State) : Checked := do
  ensure (decide (n ≤ 255)) .outOfRange
  let a ← lookup (findAccount s n) .noSuch
  done s (accountReport s a)

/-- ACCOUNT-INFO (R185). -/
def execAccountInfo (r : Taken Nat) (s : State) : Answered := .next (request (.accountInfo r) r accountInfo s)

/-! ### Holders -/

/-- A byte a label may hold (R187). -/
def printable (b : Byte) : Bool := decide (0x20 ≤ b.toNat ∧ b.toNat ≤ 0x7E)

def modifyHolder (h : Nat) (f : HolderRec → HolderRec) (s : State) : State :=
  { s with holders := s.holders.modify h f }

/-- R187's checks and effect. -/
def setHolder (r : HolderSetReq) (s : State) : Checked := do
  ensure (decide (r.holder ≤ 63)) .outOfRange
  ensure (decide (r.label.length = 16) && r.label.all printable) .malformed
  done (modifyHolder r.holder (fun h => { h with label := r.label }) s) [.u8 r.holder, .raw r.label]

/-- HOLDER-SET (R187). -/
def execHolderSet (r : Taken HolderSetReq) (s : State) : Answered := .next (request (.holderSet r) r setHolder s)

/-- R188's checks and effect. -/
def payHolder (r : PayoutReq) (s : State) : Checked := do
  ensure (decide (r.holder ≤ 63)) .outOfRange
  let h ← lookup s.holders[r.holder]? .outOfRange
  ensure (decide (h.paid + r.amount ≤ h.accrued)) .outOfRange
  done (modifyHolder r.holder (fun h => { h with paid := h.paid + r.amount }) s)
    [.u64 h.accrued, .u64 (h.paid + r.amount), .u64 (h.accrued - (h.paid + r.amount))]

/-- HOLDER-PAYOUT (R188). -/
def execHolderPayout (r : Taken PayoutReq) (s : State) : Answered := .next (request (.holderPayout r) r payHolder s)

/-! ### REVENUE-INFO -/

/-- The six counters (R179). -/
def Revenue.wire (r : Revenue) : List Wire :=
  [.u64 r.orders, .u64 r.charges, .u64 r.rights, .u64 r.accruals, .u64 r.houseRights, .u64 r.houseRevenue]

/-- Holders 1 to 63 with their numbers. -/
def agencies (s : State) : List (Nat × HolderRec) := (s.holders.zipIdx.map fun x => (x.2, x.1)).drop 1

/-- A holder in REVENUE-INFO's list (R189). -/
def holderBrief (x : Nat × HolderRec) : List Wire :=
  [.u8 x.1, .raw x.2.label, .u64 x.2.accrued, .u64 x.2.paid]

/-- One holder in REVENUE-INFO (R189). -/
def holderReport (h : HolderRec) : List Wire :=
  [.raw h.label, .u64 h.accrued, .u64 h.paid, .u64 (h.accrued - h.paid)]

def revenueInfo (n : Option Nat) (s : State) : Checked :=
  match n with
  | some n => do
    ensure (decide (n ≤ 63)) .outOfRange
    let h ← lookup s.holders[n]? .outOfRange
    done s (holderReport h)
  | none =>
    done s (s.revenue.wire
      ++ [.u64 ((agencies s).map (·.2.accrued)).sum, .u64 ((agencies s).map (·.2.paid)).sum]
      ++ listOf holderBrief ((agencies s).filter fun x => decide (0 < x.2.accrued)))

/-- REVENUE-INFO (R189). -/
def execRevenueInfo (r : Taken (Option Nat)) (s : State) : Answered :=
  .next (request (.revenueInfo r) r revenueInfo s)

end Sys2Proof.Machine
end

