-- ==== Sys2Proof/Machine/Calendar.lean ====
section
/-! DEFINITION. The Calendar, the suppression arm's timer and the Supply Watch (R23, R209 to R215). -/

namespace Sys2Proof.Machine

/-! ### SET-DATE -/

/-- The date state and, when SET, today and the time of day (R206, R213). -/
def dateWire (d : Option Date) : List Wire :=
  .u8 (dateStateCode d) :: (match d with
    | some x => [.u16 x.today, .u32 x.seconds]
    | none => [])

/-- R213's check and effect. That the new values in DONE repeat the date state, SET, before the day and the time is the
model's choice (log 14). -/
def setDate (r : DateReq) (s : State) : Checked := do
  ensure (decide (r.seconds ≤ 86399)) .outOfRange
  let d : Option Date := some ⟨r.day, r.seconds, 0⟩
  let t := { s with date := d }
  done (drain (recheck t none) t) (dateWire s.date ++ dateWire d)

/-- SET-DATE (R213). -/
def execSetDate (r : Taken DateReq) (s : State) : Answered := .next (request (.setDate r) r setDate s)

/-! ### The tick -/

/-- The time base rises by 1; past its top it is 0 and TIME-WRAP is raised (R209). -/
def advanceBase (s : State) : State :=
  let t := { s with timeBase := s.timeBase + 1 }
  if t.timeBase = 0 then raise .timeWrap .none [] t else t

/-- The next tick rolls the day (R212). -/
def Date.rolls (d : Date) : Bool := decide (99 ≤ d.ticks ∧ 86399 ≤ d.seconds)

/-- The Calendar's fields after a tick (R212). -/
def Date.tick (d : Date) : Date :=
  if d.ticks < 99 then { d with ticks := d.ticks + 1 }
  else if d.seconds < 86399 then { d with seconds := d.seconds + 1, ticks := 0 }
  else ⟨min 65535 (d.today + 1), 0, 0⟩

/-- The date advances; a day roll raises DAY-ROLLED and runs the re-check (R212). -/
def advanceDate (s : State) : State :=
  match s.date with
  | none => s
  | some d =>
    let t := { s with date := some d.tick }
    if d.rolls then
      let t := raise .dayRolled .none [.u16 d.tick.today] t
      drain (recheck t none) t
    else t

/-- One tick of the time base (R209, R212). -/
def tick (s : State) : State := advanceDate (advanceBase s)

/-- TIME_BASE_TICK (R209). A wrap or a day roll that falls on the tick is part of it. (Log 7.) -/
def execTimeBaseTick (s : State) : Answered := .next (tick s)

/-- TIME_WRAP (R209): the tick at the top of the time base; at any other value no wrap can come. (Log 7.) -/
def execTimeWrap (s : State) : Answered := .next (if s.timeBase = 0xFFFFFFFF#32 then tick s else s)

/-- DAY_ROLL (R212): the tick at the end of a day; at any other moment no roll can come. (Log 7.) -/
def execDayRoll (s : State) : Answered := .next (if s.date.any Date.rolls then tick s else s)

/-! ### The arm timer and the write hold -/

/-- ARM_TIMER_EXPIRY (R23). -/
def execArmTimerExpiry (s : State) : Answered :=
  .next <|
    match s.arm with
    | some a => if due s armSeconds a.started then { s with arm := none } else s
    | none => s

/-- WRITE_HOLD_EXPIRY (R220). -/
def execWriteHoldExpiry (s : State) : Answered :=
  .next <|
    match s.writeHold with
    | some start => if due s holdSeconds start then { s with writeHold := none } else s
    | none => s

/-! ### The Supply Watch -/

/-- SUPPLY_LOW (R214). While a POWER or BROWNOUT reset holds, the state stays NORMAL. (Log 5.) -/
def execSupplyLow (s : State) : Answered :=
  .next (if s.supply = .normal ∧ s.supplyHeld = false then raise .supplyLow .none [] { s with supply := .low } else s)

/-- SUPPLY_NORMAL (R214). -/
def execSupplyNormal (s : State) : Answered :=
  .next (if s.supply = .low then raise .supplyNormal .none [] { s with supply := .normal } else s)

end Sys2Proof.Machine
end

