-- ==== Sys2Proof/Machine/Link.lean ====
section
/-! DEFINITION. The Archive Link: the receiver and the frames it hands on (R190 to R194), UNKNOWN-REQUEST
(R195), STATUS, TAKE-NOTICES, SET-FILTER and RESET (R203, R204, R206, R207). -/

namespace Sys2Proof.Machine

/-! ### The receiver -/

/-- A frame whose check agrees is handed on by its kind (R193). -/
def handOn (kind tag code : Nat) (body : List Byte) (s : State) : State :=
  if kind = 1 then
    if s.inputBuffer.length < Config.bufferRoom then { s with inputBuffer := s.inputBuffer ++ [⟨tag, code, body⟩] }
    else s
  else if kind = 3 ∧ code = 0 then receiveData tag body s
  else s

/-- The bytes from the length field on, once a frame is whole: handed on when the check agrees (R191, R192). -/
def frameWhole (b : List Byte) (s : State) : State :=
  let inner := b.take (b.length - 2)
  if beNat (b.drop (b.length - 2)) = (crc16 inner).toNat then
    handOn (beNat ((inner.drop 2).take 1)) (beNat ((inner.drop 3).take 1)) (beNat ((inner.drop 4).take 2))
      (inner.drop 6) s
  else s

/-- A byte while READING; `b` are the bytes taken since the mark, this one among them (R192). -/
def readingByte (b : List Byte) (s : State) : State :=
  let n := beNat (b.take 2)
  if b.length = 2 ∧ 4104 < n then { s with receiver := .hunting false }
  else if 2 ≤ b.length ∧ b.length = n + 8 then frameWhole b { s with receiver := .hunting false }
  else { s with receiver := .reading b }

/-- A byte arrives (R192). -/
def receiveByte (s : State) (x : Byte) : State :=
  match s.receiver with
  | .hunting true =>
    if x = 0x5A#8 then { s with receiver := .reading [] } else { s with receiver := .hunting (decide (x = 0xA5#8)) }
  | .hunting false => { s with receiver := .hunting (decide (x = 0xA5#8)) }
  | .reading b => readingByte (b ++ [x]) s

/-- Bytes arrive one after another. -/
def receive (b : List Byte) (s : State) : State := b.foldl receiveByte s

/-- REQUEST_FRAME (R192 to R194): the bytes of a REQUEST frame arrive. (Log 28.) -/
def execRequestFrame (tag code : Nat) (body : List Byte) (s : State) : Answered :=
  .next (receive (frameBytes 1 tag code body) s)

/-- DATA_IN (R192, R193, R50, R51): the bytes of a DATA-IN frame arrive. -/
def execDataIn (tag code : Nat) (body : List Byte) (s : State) : Answered :=
  .next (receive (frameBytes 3 tag code body) s)

/-- FRAME_DISCARD (R192, R193): other bytes arrive, which make no frame the part hands on. -/
def execFrameDiscard (b : List Byte) (s : State) : Answered := .next (receive b s)

/-! ### UNKNOWN-REQUEST -/

/-- UNKNOWN_REQUEST (R195, case 2); a code that names a request is none. -/
def execUnknownRequest (tag code : Nat) (s : State) : Answered :=
  .next <|
    if requestOf tag code [] ≠ .unknownRequest tag code then s
    else
      request (.unknownRequest tag code) ⟨tag, some ()⟩ (fun _ _ => refuse .unknownRequest []) s

/-! ### STATUS -/

/-- STATUS's fields (R206). -/
def statusReport (s : State) : List Wire :=
  [.u8 s.part.code, .u8 s.lastCause.code, .u8 s.supply.code] ++ dateWire s.date
    ++ [wireTick s.timeBase, .u16 s.notices.length, flag s.queueFull, .u16 s.queue.length, .u32 s.free, heldClasses s]
    ++ (List.range 4).map fun u => .u8 (unitAt s u).state.code

/-- STATUS (R206), answered in STARTING too (R195). -/
def execStatus (r : Taken Unit) (s : State) : Answered :=
  .next <|
    match takeRequest (.status r) s with
    | none => s
    | some t =>
      match r.body with
      | none => send (.reply r.tag (.refused .malformed [])) t
      | some _ => send (.reply r.tag (.done (statusReport t))) t

/-! ### TAKE-NOTICES, SET-FILTER, RESET -/

/-- R203's effect and reply. -/
def takeNotices (n : Nat) (s : State) : Checked :=
  let given := s.notices.take (noticesAsked n)
  let t := dropNotices n s
  done t ([.u16 given.length] ++ listOf Notice.wire given ++ [.u16 t.notices.length, flag s.queueFull])

/-- TAKE-NOTICES (R203). -/
def execTakeNotices (r : Taken Nat) (s : State) : Answered := .next (request (.takeNotices r) r takeNotices s)

/-- ENABLED 1, DISABLED 2 (R204). -/
def enabledOf : Nat → Option Bool
  | 1 => some true
  | 2 => some false
  | _ => none

def Filter.wire (f : Filter) : List Wire :=
  [.u8 (enabledCode f.edition), .u8 (enabledCode f.medium), .u8 (enabledCode f.fetch), .u8 (enabledCode f.restore),
    .u8 (enabledCode f.order)]

/-- R204's check and effect. -/
def setFilter (r : FilterReq) (s : State) : Checked := do
  let a ← lookup (enabledOf r.edition) .malformed
  let b ← lookup (enabledOf r.medium) .malformed
  let c ← lookup (enabledOf r.fetch) .malformed
  let d ← lookup (enabledOf r.restore) .malformed
  let e ← lookup (enabledOf r.order) .malformed
  done { s with filter := ⟨a, b, c, d, e⟩ } (s.filter.wire ++ Filter.wire ⟨a, b, c, d, e⟩)

/-- SET-FILTER (R204). -/
def execSetFilter (r : Taken FilterReq) (s : State) : Answered := .next (request (.setFilter r) r setFilter s)

/-- RESET (R207): DONE is sent, and the LINK reset is due. (Log 8.) -/
def execReset (r : Taken Unit) (s : State) : Answered :=
  .next (request (.reset r) r (fun _ s => done { s with linkResetDue := true } []) s)

end Sys2Proof.Machine
end

