-- ==== Sys2Proof/Machine/Resets.lean ====
section
/-! DEFINITION. The four resets, start-up and its recovery (R69, R72, R208, R216 to R220). -/

namespace Sys2Proof.Machine

/-! ### What every reset discards -/

/-- A CLOSING edition's timer is dropped with every running timer (R210). -/
def Edition.stopTimer (e : Edition) : Edition :=
  match e.state with
  | .closing target _ => { e with state := .closing target none }
  | _ => e

/-- The frames of a delivery that had been sent whole when the reset cut the stream; how many is a free value, and DONE is
never among them (R199). (Log 22.) -/
def cutFrames (s : State) : List OutFrame :=
  match s.outbound with
  | .idle => []
  | .sending _ frames => frames.take (Config.framesSentBeforeCut s.freeCount % frames.length)

/-- Free values a cut uses. -/
def cutUses (s : State) : Nat :=
  match s.outbound with
  | .idle => 0
  | .sending _ _ => 1

/-- The volatile work is discarded (R216 and the owners' rules it lists), the link and the Notice Queue stand
as R208 says, and the part is STARTING (R217). -/
def discardVolatile (s : State) : State :=
  { s with
    editions := s.editions.map Edition.stopTimer
    accounts := s.accounts.map fun a => { a with reserved := 0 }
    arm := none
    slots := List.replicate 4 none
    queue := []
    reads := []
    held2 := false
    held3 := false
    free := Config.slabTotal
    tickets := [], nextTicket := 1
    jobs := [], nextJob := 1
    engine := none
    orders := [], nextOrder := 1
    slabWait := [], restoreWait := []
    notices := []
    queueFull := false
    halfArmed := true
    attention := false
    receiver := .hunting false
    inputBuffer := []
    outbound := .idle
    linkResetDue := false
    part := .starting
    queries := List.replicate 4 none
    incomplete := 0
    writeHold := none
    linkOut := s.linkOut ++ cutFrames s
    freeCount := s.freeCount + cutUses s }

/-! ### The records a recovery pass changes (R218) -/

/-- A state the recovery makes INCOMPLETE. -/
def ContentState.unfinished : ContentState → Bool
  | .receiving => true
  | .queued => true
  | .committing => true
  | _ => false

/-- The write of a pass to a content record, if its state calls for one. -/
def contentWrite (x : Subject) (st : ContentState) (l : Option Location) : List PassWrite :=
  if st.unfinished then [.content x st l] else []

/-- The writes of a pass to an edition's plates. -/
def Edition.plateWrites (e : Edition) : List PassWrite :=
  e.pages.flatMap fun p => p.plates.zipIdx.flatMap fun x =>
    contentWrite (.plate ⟨e.day, e.index, p.page, x.2 + 1⟩) x.1.state x.1.location

/-- The write of a pass to an edition's own record. -/
def Edition.closeWrite (e : Edition) : List PassWrite :=
  match e.state with
  | .closing target _ => [.close e.day e.index target]
  | _ => []

/-- Each record a pass over the store changes, by one write: plates and photos first, then editions. -/
def writesOfPass (s : State) : List PassWrite :=
  s.editions.flatMap Edition.plateWrites
    ++ (s.photos.flatMap fun p => contentWrite (.photo p.number) p.state p.location)
    ++ s.editions.flatMap Edition.closeWrite

/-- A write a pass had not made when a reset cut it: the record is as before it. Its close timer has gone (R210). -/
def undoWrite (w : PassWrite) (s : State) : State :=
  match w with
  | .content (.plate r) was l =>
    modifyPlate r (fun p =>
      if p.state = .incomplete ∧ was.unfinished = true then { p with state := was, location := l } else p) s
  | .content (.photo n) was l =>
    modifyPhoto n (fun p =>
      if p.state = .incomplete ∧ was.unfinished = true then { p with state := was, location := l } else p) s
  | .close day index target =>
    modifyEdition day index (fun e => if e.state = .opened then { e with state := .closing target none } else e) s

/-- The writes a cut pass had not made: which of them is a free value. (Log 27.) -/
def unwritten (s : State) : List PassWrite :=
  (s.passWrites.zipIdx.filter fun x => !Config.writtenBeforeCut s.freeCount x.2).map (·.1)

/-- A reset that falls during the recovery pass leaves each record either changed or not (R218). -/
def cutPass (s : State) : State :=
  match s.passWrites with
  | [] => s
  | _ => { (unwritten s).foldl (fun t w => undoWrite w t) s with passWrites := [], freeCount := s.freeCount + 1 }

/-- What POWER, BROWNOUT and LINE discard besides: the recovery pass under way, the date and the unit records (R216, R218;
log 6). The time base rises on while the reset holds, until start-up sets it to 0 (R209; log 24). -/
def hardReset (cause : ResetCause) (s : State) : State :=
  { discardVolatile (cutPass s) with date := none, units := List.replicate 4 absentUnit, lastCause := cause }

/-- POWER_RESET (R216). -/
def execPowerReset (s : State) : Answered :=
  .next { hardReset .power s with supply := .normal, supplyHeld := true }

/-- BROWNOUT_RESET (R215, R216). -/
def execBrownoutReset (s : State) : Answered :=
  .next { hardReset .brownout s with supply := .normal, supplyHeld := true }

/-- LINE_ASSERT (R216); a line already asserted is not asserted again. -/
def execLineAssert (s : State) : Answered :=
  .next (if s.lineHeld then s else { hardReset .line s with lineHeld := true })

/-! ### The recovery pass (R218) -/

def Plate.recover (p : Plate) : Plate :=
  if p.state.unfinished then { p with state := .incomplete, location := none } else p

def Photo.recover (p : Photo) : Photo :=
  if p.state.unfinished then { p with state := .incomplete, location := none } else p

def EditionState.recover : EditionState → EditionState
  | .closing _ _ => .opened
  | x => x

def Edition.recover (e : Edition) : Edition :=
  { e with
    state := e.state.recover
    pages := e.pages.map fun p => { p with plates := p.plates.map Plate.recover } }

/-- The records the pass makes INCOMPLETE. -/
def unfinishedCount (s : State) : Nat :=
  ((s.editions.flatMap Edition.plates).countP fun p => p.state.unfinished)
    + s.photos.countP fun p => p.state.unfinished

/-- The pass over the catalogue store (R218): its writes are made as it begins and kept until it has ended, since a reset
may find some of them not made. (Log 27.) -/
def recoveryPass (s : State) : State :=
  { s with
    passWrites := writesOfPass s
    editions := s.editions.map Edition.recover
    photos := s.photos.map Photo.recover
    incomplete := unfinishedCount s }

/-! ### Units at start-up (R219) -/

/-- Extents of content at a location, counted on unit u. -/
def extentsAt (u size : Nat) (l : Option Location) : Nat :=
  match l with
  | some l => if l.unit = u then slabsFor size else 0
  | none => 0

/-- Extents of a plate and its restored copy on unit u. -/
def Plate.extentsOn (u : Nat) (p : Plate) : Nat :=
  (if p.state = .stored ∨ p.state = .suppressed then extentsAt u p.size p.location else 0)
    + (match p.restored with
      | some c => extentsAt u c.size (some c.loc)
      | none => 0)

/-- Extents of a photo on unit u. -/
def Photo.extentsOn (u : Nat) (p : Photo) : Nat := if p.state = .stored then extentsAt u p.size p.location else 0

/-- The extents the catalogue locates on a unit (R219). -/
def locatedOn (s : State) (u : Nat) : Nat :=
  ((s.editions.flatMap Edition.plates).map (Plate.extentsOn u)).sum + (s.photos.map (Photo.extentsOn u)).sum

/-- Start-up begins: the time base restarts, the recovery pass runs and each position is queried (R209, R218,
R219). R219 does not say whether the positions are queried together or one after another, nor from when each limit runs:
that the four queries leave together as start-up begins, their limits from tick 0, is the model's choice (log 37). -/
def startUp (s : State) : State :=
  let s := recoveryPass { s with timeBase := 0, queries := List.replicate 4 (some 0) }
  { s with chainOut := s.chainOut ++ [.query 0, .query 1, .query 2, .query 3] }

/-- Start-up begins when nothing holds the reset (R216). (Log 5.) -/
def startIfFree (s : State) : State := if s.supplyHeld = false ∧ s.lineHeld = false then startUp s else s

/-- SUPPLY_RECOVERED (R214, R216). -/
def execSupplyRecovered (s : State) : Answered :=
  .next (if s.supplyHeld then startIfFree { s with supplyHeld := false } else s)

/-- LINE_RELEASE (R216). -/
def execLineRelease (s : State) : Answered :=
  .next (if s.lineHeld then startIfFree { s with lineHeld := false } else s)

/-- READY, the recovery being done, and STARTED: the reset cause and the INCOMPLETE count (R220). -/
def raiseStarted (s : State) : State :=
  raise .started .none [.u8 s.lastCause.code, .u16 s.incomplete] { s with part := .ready, passWrites := [] }

/-- The part becomes READY when the last position is settled; the write hold starts (R220). -/
def readyIfSettled (s : State) : State :=
  if s.queries.all (·.isNone) then { raiseStarted s with writeHold := some s.timeBase } else s

/-- A position is settled with a unit record, the recovery pass having ended (R218, R219). -/
def settleUnit (u : Nat) (x : UnitRec) (s : State) : State :=
  readyIfSettled { modifyUnit u (fun _ => x) s with queries := s.queries.set u none, passWrites := [] }

/-- The query outstanding at a position. -/
def queryAt (s : State) (u : Nat) : Option Tick := (s.queries[u]?).join

/-- A unit that answers: ONLINE, or ABSENT when its capacity is below what is located on it (R219). -/
def answeredUnit (s : State) (u capacity writeCount : Nat) : UnitRec :=
  if capacity < locatedOn s u then absentUnit
  else ⟨.online, capacity, capacity - locatedOn s u, 0, writeCount, none⟩

/-- UNIT_QUERY_ANSWER (R219); an answer to no outstanding query is discarded (R72). An answer to the query of a start-up that
a reset cut is not told from one to the query outstanding now: the model's choice (log 33). -/
def execUnitQueryAnswer (u capacity writeCount : Nat) (s : State) : Answered :=
  .next <|
    match queryAt s u with
    | some _ => settleUnit u (answeredUnit s u capacity writeCount) s
    | none => s

/-- QUERY_LIMIT_EXPIRY (R72, R219): no answer within the commit limit held in the store. -/
def execQueryLimitExpiry (u : Nat) (s : State) : Answered :=
  .next <|
    match queryAt s u with
    | some start => if due s s.commitLimit start then settleUnit u absentUnit s else s
    | none => s

/-! ### The LINK reset -/

/-- Each BUSY unit is sent the abort (R69). -/
def abortBusy (s : State) : State :=
  { s with
    chainOut := s.chainOut ++
      ((List.range s.units.length).filter fun u => (unitAt s u).op.isSome).map fun u => .abort u }

/-- A unit record after LINK: kept but for its operation and its free extents (R69, R219). -/
def relinkedUnit (s : State) (u : Nat) (x : UnitRec) : UnitRec :=
  if x.state = .absent then { x with op := none }
  else { x with op := none, free := x.capacity - locatedOn s u }

/-- The unit records after LINK. -/
def relinkUnits (s : State) : State :=
  { s with units := s.units.zipIdx.map fun x => relinkedUnit s x.2 x.1 }

/-- The LINK reset takes effect: BUSY units are sent the abort, the volatile work goes, and the part is STARTING while its
recovery runs (R69, R207, R216, R217, R218, R219). -/
def linkTakesEffect (s : State) : State :=
  relinkUnits (recoveryPass { discardVolatile (abortBusy s) with lastCause := .link })

/-- LINK_RESET (R207, R216, R220): while one is due it takes effect, RESET's DONE having been sent; in the start-up that
follows it is the recovery's end, and the part is READY. (Log 8.) -/
def execLinkReset (s : State) : Answered :=
  .next <|
    if s.linkResetDue then linkTakesEffect s
    else if s.part = .starting ∧ s.lastCause = .link then raiseStarted s
    else s

end Sys2Proof.Machine
end

