-- ==== Sys2Proof/Machine/Dispatch.lean ====
section
/-! DEFINITION. The dispatch: one arm per command, each one call of its meaning. -/

namespace Sys2Proof.Machine

def exec (i : Instr) (s : State) : Host.Outcome State Fault Refusal :=
  match i with
  | .openEdition r => Sys2Proof.Machine.execOpenEdition r s
  | .dropEdition r => Sys2Proof.Machine.execDropEdition r s
  | .editionInfo r => Sys2Proof.Machine.execEditionInfo r s
  | .pageInfo r => Sys2Proof.Machine.execPageInfo r s
  | .plateInfo r => Sys2Proof.Machine.execPlateInfo r s
  | .suppressArm r => Sys2Proof.Machine.execSuppressArm r s
  | .suppress r => Sys2Proof.Machine.execSuppress r s
  | .filePhoto r => Sys2Proof.Machine.execFilePhoto r s
  | .setRights r => Sys2Proof.Machine.execSetRights r s
  | .barPhoto r => Sys2Proof.Machine.execBarPhoto r s
  | .unbarPhoto r => Sys2Proof.Machine.execUnbarPhoto r s
  | .removePhoto r => Sys2Proof.Machine.execRemovePhoto r s
  | .photoInfo r => Sys2Proof.Machine.execPhotoInfo r s
  | .deposit r => Sys2Proof.Machine.execDeposit r s
  | .redeposit r => Sys2Proof.Machine.execRedeposit r s
  | .depositEnd r => Sys2Proof.Machine.execDepositEnd r s
  | .withdrawPlate r => Sys2Proof.Machine.execWithdrawPlate r s
  | .closeEdition r => Sys2Proof.Machine.execCloseEdition r s
  | .unitList r => Sys2Proof.Machine.execUnitList r s
  | .unitState r => Sys2Proof.Machine.execUnitState r s
  | .holdClass r => Sys2Proof.Machine.execHoldClass r s
  | .releaseClass r => Sys2Proof.Machine.execReleaseClass r s
  | .setCommitLimit r => Sys2Proof.Machine.execSetCommitLimit r s
  | .queueList r => Sys2Proof.Machine.execQueueList r s
  | .fetch r => Sys2Proof.Machine.execFetch r s
  | .ticketList r => Sys2Proof.Machine.execTicketList r s
  | .restore r => Sys2Proof.Machine.execRestore r s
  | .jobInfo r => Sys2Proof.Machine.execJobInfo r s
  | .cancelJob r => Sys2Proof.Machine.execCancelJob r s
  | .setProfile r => Sys2Proof.Machine.execSetProfile r s
  | .toneTable r => Sys2Proof.Machine.execToneTable r s
  | .placeOrder r => Sys2Proof.Machine.execPlaceOrder r s
  | .orderInfo r => Sys2Proof.Machine.execOrderInfo r s
  | .collect r => Sys2Proof.Machine.execCollect r s
  | .cancelOrder r => Sys2Proof.Machine.execCancelOrder r s
  | .setTariff r => Sys2Proof.Machine.execSetTariff r s
  | .accountOpen r => Sys2Proof.Machine.execAccountOpen r s
  | .accountCredit r => Sys2Proof.Machine.execAccountCredit r s
  | .accountLimit r => Sys2Proof.Machine.execAccountLimit r s
  | .accountState r => Sys2Proof.Machine.execAccountState r s
  | .accountInfo r => Sys2Proof.Machine.execAccountInfo r s
  | .holderSet r => Sys2Proof.Machine.execHolderSet r s
  | .holderPayout r => Sys2Proof.Machine.execHolderPayout r s
  | .revenueInfo r => Sys2Proof.Machine.execRevenueInfo r s
  | .status r => Sys2Proof.Machine.execStatus r s
  | .takeNotices r => Sys2Proof.Machine.execTakeNotices r s
  | .setFilter r => Sys2Proof.Machine.execSetFilter r s
  | .reset r => Sys2Proof.Machine.execReset r s
  | .setDate r => Sys2Proof.Machine.execSetDate r s
  | .unknownRequest tag code => Sys2Proof.Machine.execUnknownRequest tag code s
  | .requestFrame tag code body => Sys2Proof.Machine.execRequestFrame tag code body s
  | .dataIn tag code body => Sys2Proof.Machine.execDataIn tag code body s
  | .frameDiscard bytes => Sys2Proof.Machine.execFrameDiscard bytes s
  | .ticketDeliveryEnd => Sys2Proof.Machine.execTicketDeliveryEnd s
  | .itemDeliveryEnd => Sys2Proof.Machine.execItemDeliveryEnd s
  | .stallTimerExpiry slot => Sys2Proof.Machine.execStallTimerExpiry slot s
  | .ticketCollectExpiry ticket => Sys2Proof.Machine.execTicketCollectExpiry ticket s
  | .itemCollectExpiry order item => Sys2Proof.Machine.execItemCollectExpiry order item s
  | .closeTimerExpiry day index => Sys2Proof.Machine.execCloseTimerExpiry day index s
  | .armTimerExpiry => Sys2Proof.Machine.execArmTimerExpiry s
  | .operationLimitExpiry unit => Sys2Proof.Machine.execOperationLimitExpiry unit s
  | .writeHoldExpiry => Sys2Proof.Machine.execWriteHoldExpiry s
  | .timeBaseTick => Sys2Proof.Machine.execTimeBaseTick s
  | .timeWrap => Sys2Proof.Machine.execTimeWrap s
  | .dayRoll => Sys2Proof.Machine.execDayRoll s
  | .commitGrant unit => Sys2Proof.Machine.execCommitGrant unit s
  | .readGrant unit => Sys2Proof.Machine.execReadGrant unit s
  | .writeVerifyOk unit start => Sys2Proof.Machine.execWriteVerifyOk unit start s
  | .writeVerifyError unit => Sys2Proof.Machine.execWriteVerifyError unit s
  | .readAnswer unit answer => Sys2Proof.Machine.execReadAnswer unit answer s
  | .tileWritten => Sys2Proof.Machine.execTileWritten s
  | .supplyLow => Sys2Proof.Machine.execSupplyLow s
  | .supplyNormal => Sys2Proof.Machine.execSupplyNormal s
  | .brownoutReset => Sys2Proof.Machine.execBrownoutReset s
  | .powerReset => Sys2Proof.Machine.execPowerReset s
  | .supplyRecovered => Sys2Proof.Machine.execSupplyRecovered s
  | .lineAssert => Sys2Proof.Machine.execLineAssert s
  | .lineRelease => Sys2Proof.Machine.execLineRelease s
  | .linkReset => Sys2Proof.Machine.execLinkReset s
  | .unitQueryAnswer unit capacity writeCount => Sys2Proof.Machine.execUnitQueryAnswer unit capacity writeCount s
  | .queryLimitExpiry unit => Sys2Proof.Machine.execQueryLimitExpiry unit s

end Sys2Proof.Machine
end

