-- ==== Sys2Proof/Safety.lean ====
section
/-! DEFINITION. What claims about the part are stated with: when a request is taken and acted on, the state it is
acted on in, the invariants every step keeps, and what a state in which no work waits is. -/

namespace Sys2Proof.Machine

/-- The request is taken and acted on by its own rule (R195, case 4). -/
abbrev Acts (c : Instr) (s : State) : Prop := s.part = .ready ∧ Takes c s

/-- A reply leaves. -/
def replied (tag : Nat) (b : ReplyBody) (s : State) : State := send (.reply tag b) s

/-- The request ends DONE with these fields, the part left in state t (R196). -/
abbrev endsDone (tag : Nat) (fields : List Wire) (t : State) : Answered := .next (replied tag (.done fields) t)

/-- The request is refused with a reason alone and has changed no record (R196). -/
abbrev endsRefused (tag : Nat) (r : Reason) (s : State) : Answered := .next (replied tag (.refused r []) (taken s))

/-- The request draws a RETRY with a reason and has not acted (R196). -/
abbrev endsRetry (tag : Nat) (r : RetryReason) (n : RetryNumber) (fields : List Wire) (s : State) : Answered :=
  .next (replied tag (.retry r n fields) (taken s))

/-- Nothing waits that could go on: no landed job while the engine is free, no REPAIRED job while a place is free, no stored
copy that nothing holds back from its installation, no member of the restore-wait list that would not be turned away
again, no first WAITING job and no first member of the slab-wait list that could have its slabs (R95, R119, R121, R122,
R124, R154, R156). -/
abbrev Settled (s : State) : Prop :=
  (s.engine = none → ∀ j ∈ s.jobs, j.state = .fetching → j.landed = false)
    ∧ (s.queue.length + reservedPlaces s < 64 → ∀ j ∈ s.jobs, j.state ≠ .repaired)
    ∧ (∀ j ∈ s.jobs, j.state = .committing → j.stored.isSome = true → copyHold s j.plate ≠ 0)
    ∧ (∀ x ∈ s.restoreWait, ∀ it, findItem s x.1 x.2 = some it → ∃ r p, it.subject = .plate r ∧ it.bound = .restored p
        ∧ presentProfile s r ≠ some p
        ∧ match jobOn s r with
          | some j => j.profile ≠ p ∨ 8 ≤ j.waiting.length
          | none => 16 ≤ s.jobs.length)
    ∧ ((∃ j ∈ s.jobs, j.state = .fetching)
        ∨ ∀ j, (queueOrder s).find? (fun j => decide (j.state = .waiting)) = some j →
            ∀ src, copySource s (.plate j.plate) .original = some src → s.free < 2 * slabsFor src.size + 8192)
    ∧ ∀ x, s.slabWait.head? = some x → ∀ it, findItem s x.1 x.2 = some it →
        ∀ src, copySource s it.subject it.bound.copy = some src → s.free < slabsFor src.size + 8192

/-- A request's tag: none for a command that is no request. -/
def requestTag : Instr → Option Nat
  | .openEdition r => some r.tag
  | .dropEdition r => some r.tag
  | .editionInfo r => some r.tag
  | .pageInfo r => some r.tag
  | .plateInfo r => some r.tag
  | .suppressArm r => some r.tag
  | .suppress r => some r.tag
  | .filePhoto r => some r.tag
  | .setRights r => some r.tag
  | .barPhoto r => some r.tag
  | .unbarPhoto r => some r.tag
  | .removePhoto r => some r.tag
  | .photoInfo r => some r.tag
  | .deposit r => some r.tag
  | .redeposit r => some r.tag
  | .depositEnd r => some r.tag
  | .withdrawPlate r => some r.tag
  | .closeEdition r => some r.tag
  | .unitList r => some r.tag
  | .unitState r => some r.tag
  | .holdClass r => some r.tag
  | .releaseClass r => some r.tag
  | .setCommitLimit r => some r.tag
  | .queueList r => some r.tag
  | .fetch r => some r.tag
  | .ticketList r => some r.tag
  | .restore r => some r.tag
  | .jobInfo r => some r.tag
  | .cancelJob r => some r.tag
  | .setProfile r => some r.tag
  | .toneTable r => some r.tag
  | .placeOrder r => some r.tag
  | .orderInfo r => some r.tag
  | .collect r => some r.tag
  | .cancelOrder r => some r.tag
  | .setTariff r => some r.tag
  | .accountOpen r => some r.tag
  | .accountCredit r => some r.tag
  | .accountLimit r => some r.tag
  | .accountState r => some r.tag
  | .accountInfo r => some r.tag
  | .holderSet r => some r.tag
  | .holderPayout r => some r.tag
  | .revenueInfo r => some r.tag
  | .status r => some r.tag
  | .takeNotices r => some r.tag
  | .setFilter r => some r.tag
  | .reset r => some r.tag
  | .setDate r => some r.tag
  | .unknownRequest tag _ => some tag
  | .requestFrame .. => none
  | .dataIn .. => none
  | .frameDiscard _ => none
  | .ticketDeliveryEnd => none
  | .itemDeliveryEnd => none
  | .stallTimerExpiry _ => none
  | .ticketCollectExpiry _ => none
  | .itemCollectExpiry .. => none
  | .closeTimerExpiry .. => none
  | .armTimerExpiry => none
  | .operationLimitExpiry _ => none
  | .writeHoldExpiry => none
  | .timeBaseTick => none
  | .timeWrap => none
  | .dayRoll => none
  | .commitGrant _ => none
  | .readGrant _ => none
  | .writeVerifyOk .. => none
  | .writeVerifyError .. => none
  | .readAnswer .. => none
  | .tileWritten => none
  | .supplyLow => none
  | .supplyNormal => none
  | .brownoutReset => none
  | .powerReset => none
  | .supplyRecovered => none
  | .lineAssert => none
  | .lineRelease => none
  | .linkReset => none
  | .unitQueryAnswer .. => none
  | .queryLimitExpiry _ => none

/-! ### Invariants -/

/-- The Notice Queue within its room, the attention line driven exactly while it holds a notice, the half mark
ARMED only below 64, and the request input buffer within its room (R194, R200, R202, R205). -/
abbrev NoticesWf (s : State) : Prop :=
  s.notices.length ≤ 128 ∧ s.attention = !s.notices.isEmpty ∧ (s.halfArmed = true → s.notices.length < 64)
    ∧ s.inputBuffer.length ≤ 8

/-- Every table within its room, and the fixed tables at their sizes (R1, R43, R45, R67, R96, R110, R114, R145,
R186). -/
abbrev TablesWf (s : State) : Prop :=
  s.slots.length = 4 ∧ s.queue.length + reservedPlaces s ≤ 64 ∧ s.tickets.length ≤ 8 ∧ s.jobs.length ≤ 16
    ∧ s.orders.length ≤ 32 ∧ s.editions.length ≤ 16384 ∧ s.profiles.length = 8 ∧ s.holders.length = 64
    ∧ s.units.length = 4 ∧ s.queries.length = 4

/-- A slot's running CRC is that of the bytes kept, and no more is kept than declared (R43, R50, R52). -/
abbrev Slot.Wf (x : Slot) : Prop := x.crc = crc32Run crc32Start x.kept ∧ x.kept.length ≤ x.declared

/-- Every BOUND slot is so (R43). -/
abbrev SlotsWf (s : State) : Prop := ∀ x ∈ s.slots, ∀ y, x = some y → y.Wf

/-- The edition with a key is in the catalogue and CLOSED (R4). -/
abbrev ClosedAt (day index : Nat) (s : State) : Prop :=
  (findEdition s day index).any (fun e => decide (e.state = .closed)) = true

/-- The holder accruals counter is the sum of what holders 1 to 63 have accrued, holder 0 has accrued nothing,
no holder is paid more than it has accrued, and photos and items in order name holders of the table (R27, R178,
R179, R186, R188). -/
abbrev AccrualsAgree (s : State) : Prop :=
  s.holders.length = 64 ∧ (∀ p ∈ s.photos, p.holder ≤ 63)
    ∧ (∀ o ∈ s.orders, ∀ i ∈ o.items, i.snapshot.holder ≤ 63)
    ∧ (∀ h, s.holders.head? = some h → h.accrued = 0) ∧ (∀ h ∈ s.holders, h.paid ≤ h.accrued)
    ∧ s.revenue.accruals = ((s.holders.drop 1).map (·.accrued)).sum

/-- The sum of the reservations of an account's open orders (R180). -/
abbrev openReservations (s : State) (n : Nat) : Nat :=
  ((s.orders.filter fun o => decide (o.account = n)).map (·.reservation)).sum

/-- Order numbers differ, each open order's account exists, and every account's reserved is the sum of the
reservations of its open orders (R145, R180). -/
abbrev ReservedAgree (s : State) : Prop :=
  (s.orders.map (·.number)).Nodup ∧ s.orders.length ≤ 32
    ∧ (∀ o ∈ s.orders, (findAccount s o.account).isSome = true)
    ∧ ∀ a ∈ s.accounts, a.reserved = openReservations s a.number

/-! ### The work in hand

What holds between the parts of State while work is under way. `WorkWf` gathers it; the later groups need the
earlier ones to hold after every step. -/

/-- All plates of the catalogue. -/
abbrev allPlates (s : State) : List Plate := s.editions.flatMap Edition.plates

/-- The content state of a plate or photo. -/
abbrev contentState (s : State) : Subject → Option ContentState
  | .plate r => (findPlate s r).map (·.state)
  | .photo n => (findPhoto s n).map (·.state)

/-- The size of a plate or photo. -/
abbrev contentSize (s : State) : Subject → Option Nat
  | .plate r => (findPlate s r).map (·.size)
  | .photo n => (findPhoto s n).map (·.size)

/-- The size of a plate, 0 when there is none. -/
abbrev plateSize (s : State) (r : PlateRef) : Nat := ((findPlate s r).map (·.size)).getD 0

/-- No two records of a table share a key (R2, R3, R27, R97, R114, R115, R145, R180). -/
abbrev KeysWf (s : State) : Prop :=
  (s.editions.map fun e => (e.day, e.index)).Nodup ∧ (∀ e ∈ s.editions, (e.pages.map (·.page)).Nodup)
    ∧ (s.photos.map (·.number)).Nodup ∧ (s.tickets.map (·.number)).Nodup ∧ (s.jobs.map (·.number)).Nodup
    ∧ (s.jobs.map (·.plate)).Nodup ∧ (s.accounts.map (·.number)).Nodup

/-- A photo's use count is the number of plates that list it, and every photo a plate lists is in the catalogue
(R34). -/
abbrev UsesAgree (s : State) : Prop :=
  (∀ p ∈ s.photos, p.useCount = (allPlates s).countP fun x => decide (p.number ∈ x.photos))
    ∧ ∀ x ∈ allPlates s, ∀ n ∈ x.photos, (findPhoto s n).isSome = true

/-- A restored copy belongs to a STORED plate, a SUPPRESSED plate to a CLOSED edition, and the arm names a STORED plate of
a CLOSED edition (R16, R22, R25). -/
abbrev PlatesWf (s : State) : Prop :=
  (∀ e ∈ s.editions, ∀ x ∈ e.plates,
      (x.restored.isSome = true → x.state = .stored) ∧ (x.state = .suppressed → e.state = .closed))
    ∧ ∀ a ∈ s.arm, ClosedAt a.plate.day a.plate.index s ∧ contentState s (.plate a.plate) = some .stored

/-- Each BOUND slot has its own record, RECEIVING and of the declared size (R14, R43). -/
abbrev SlotRecordsWf (s : State) : Prop :=
  (s.slots.filterMap fun x => x.map (·.record)).Nodup
    ∧ ∀ x ∈ s.slots, ∀ y ∈ x,
        contentState s y.record = some .receiving ∧ contentSize s y.record = some y.declared

/-- A commit entry's record is QUEUED while the entry is pending and COMMITTING while it is in flight, of as many
extents as its size takes; a restored copy's job is COMMITTING and has no stored copy yet (R14, R81, R82, R123). -/
abbrev EntryWf (s : State) (e : Entry) : Prop :=
  match e.subject with
  | .restored n => ∃ j ∈ s.jobs, j.number = n ∧ j.state = .committing ∧ j.stored = none
      ∧ e.extents = slabsFor (plateSize s j.plate)
  | .plate r => (findPlate s r).any (fun p => decide (p.state = if e.inFlight.isSome then .committing else .queued)
      && decide (e.extents = slabsFor p.size)) = true
  | .photo n => (findPhoto s n).any (fun p => decide (p.state = if e.inFlight.isSome then .committing else .queued)
      && decide (e.extents = slabsFor p.size)) = true

/-- Entries have subjects of their own, and so says `EntryWf` of each; a write outstanding at a unit is that of an entry
in flight there, and an operation's number is below the count of operations sent (R45, R82; log 30). -/
abbrev QueueWf (s : State) : Prop :=
  (s.queue.map (·.subject)).Nodup ∧ (∀ e ∈ s.queue, EntryWf s e)
    ∧ ∀ u < 4, ∀ o ∈ (unitAt s u).op, o.number < s.opCount
        ∧ match o.work with
          | .write x => ∃ e ∈ s.queue, e.subject = x ∧ e.inFlight.map (·.1) = some u
          | .read .. => True

/-- A job's plate is STORED; its stored copy, its output slabs and the Repair Engine go with its state (R114, R119, R121,
R123, R124). -/
abbrev JobsWf (s : State) : Prop :=
  (∀ j ∈ s.jobs, contentState s (.plate j.plate) = some .stored
      ∧ (j.stored.isSome = true → j.state = .committing ∧ findEntry s (.restored j.number) = none)
      ∧ (j.state = .waiting → j.inputSlabs = [] ∧ j.outputSlabs = [])
      ∧ (j.state = .fetching ∨ j.state = .repairing ∨ j.state = .repaired →
          j.outputSlabs.length = slabsFor (plateSize s j.plate)))
    ∧ ∀ w ∈ s.engine, ∃ j ∈ s.jobs, j.number = w.job ∧ j.state = .repairing

/-- The reads that have an owner, waiting or sent (R88, R91). -/
abbrev ownedReads (s : State) : List Read :=
  s.reads ++ s.units.filterMap fun x => x.op.bind fun o =>
    match o.work with
    | .read r _ true => some r
    | _ => none

/-- The owner of a read waits for it (R88, R102, R120, R157). -/
abbrev awaitsRead (s : State) : Owner → Bool
  | .ticket n => (findTicket s n).any fun t => decide (t.state = .pending ∨ t.state = .reading)
  | .job n => (findJob s n).any fun j => decide (j.state = .fetching) && !j.landed
  | .item o i => (findItem s o i).any fun it => decide (it.state = .fetching)

/-- An owner has one read at most, and waits for it (R88, R91). -/
abbrev ReadsWf (s : State) : Prop :=
  ((ownedReads s).map (·.owner)).Nodup ∧ ∀ r ∈ ownedReads s, awaitsRead s r.owner = true

/-- The item is the active one of its order, in this state (R152). -/
abbrev activeIn (s : State) (x : Nat × Nat) (st : ItemState) : Prop :=
  isActive s x.1 x.2 = true ∧ (findItem s x.1 x.2).map (·.state) = some st

/-- A turn list names items of its order once, each PENDING but the active one, which is PENDING, WAIT-RESTORE or FETCHING
(R152). -/
abbrev TurnWf (x : OrderRec) : Prop :=
  x.turn.Nodup
    ∧ (∀ i ∈ x.turn, ∃ it ∈ x.item i, it.live = true ∧ it.state ≠ .waitEmbargo ∧ it.state.code ≠ 5)
    ∧ ∀ i ∈ x.turn.tail, (x.item i).map (·.state) = some .pending

/-- The wait lists: no item twice, at most 32 members, each the active item of its order, PENDING in the slab-wait list
and WAIT-RESTORE without a job in the restore-wait list; a job's waiting list has at most 8 members, each the active
item of its order and waiting for that job (R114, R152, R154, R156). -/
abbrev WaitsWf (s : State) : Prop :=
  (∀ x ∈ s.orders, TurnWf x)
    ∧ s.slabWait.Nodup ∧ s.slabWait.length ≤ 32 ∧ (∀ x ∈ s.slabWait, activeIn s x .pending)
    ∧ s.restoreWait.Nodup ∧ s.restoreWait.length ≤ 32 ∧ (∀ x ∈ s.restoreWait, activeIn s x (.waitRestore none))
    ∧ ∀ j ∈ s.jobs, j.waiting.Nodup ∧ j.waiting.length ≤ 8
        ∧ ∀ x ∈ j.waiting, activeIn s x (.waitRestore (some j.number))

/-- Slabs belong to one holder at a time, and the free count with all slabs held is 32,768; only a FETCHING or READY
item holds slabs (R92, R157). -/
abbrev SlabsAddUp (s : State) : Prop :=
  (heldSlabs s).Nodup ∧ (∀ k ∈ heldSlabs s, k < 32768) ∧ s.free + (heldSlabs s).length = 32768
    ∧ ∀ it ∈ openItems s, it.slabs = [] ∨ it.state.code = 4 ∨ it.state.code = 5

/-- Extents of attempts in flight on a unit, and of copies stored there that await installation (R74, R124). -/
abbrev extentsUnderWay (s : State) (u : Nat) : Nat :=
  ((s.queue.filter fun e => decide (e.inFlight.map (·.1) = some u)).map (·.extents)).sum
    + ((s.jobs.filter fun j => decide (j.stored.map (·.unit) = some u)).map fun j => slabsFor (plateSize s j.plate)).sum

/-- For every present unit, free extents, extents located on it, and those under way make its capacity (R74, R219). -/
abbrev ExtentsAddUp (s : State) : Prop :=
  ∀ u < 4, (unitAt s u).state ≠ .absent →
    (unitAt s u).free + locatedOn s u + extentsUnderWay s u = (unitAt s u).capacity

/-- A live item's plate is STORED; an item that caused a repair has its restoration to be made, and one that has not
finds its copy present while it is live (R148 to R150, R154). -/
abbrev ItemsWf (s : State) : Prop :=
  ∀ it ∈ openItems s, (it.causedRepair = true → it.toBeMade = true)
    ∧ match it.subject with
      | .photo _ => True
      | .plate r => it.live = true → contentState s (.plate r) = some .stored
          ∧ match it.bound with
            | .original => True
            | .restored q => it.toBeMade = false → presentProfile s r = some q

/-- No account's available funds are negative; a tier and a discount are at most 250, and a reservation is that of its
order's items (R174, R180, R181). -/
abbrev FundsWf (s : State) : Prop :=
  (∀ a ∈ s.accounts, 0 ≤ a.available ∧ a.tier ≤ 250)
    ∧ ∀ o ∈ s.orders, o.discount ≤ 250 ∧ o.reservation = reservationOf o.items o.discount

/-- While a delivery goes out its item is READY with its timer stopped (R160). -/
abbrev DeliveryWf (s : State) : Prop :=
  match s.outbound with
  | .sending (.item o i) _ => ∀ it ∈ findItem s o i, it.state = .ready none
  | _ => True

/-- While the part is STARTING there is no volatile work; a reset that is held, a query outstanding and a LINK start-up
each belong to STARTING, as the recovery pass does, the LINK start-up with no query and no hold (R207, R216 to R219). -/
abbrev StartWf (s : State) : Prop :=
  (s.part = .starting → s.slots = [none, none, none, none] ∧ s.queue = [] ∧ s.reads = [] ∧ s.tickets = []
      ∧ s.jobs = [] ∧ s.engine = none ∧ s.orders = [] ∧ s.slabWait = [] ∧ s.restoreWait = [] ∧ s.arm = none
      ∧ s.outbound = .idle ∧ ∀ u < 4, (unitAt s u).op = none)
    ∧ (s.supplyHeld = true ∨ s.lineHeld = true → s.part = .starting ∧ s.queries.all (·.isNone) = true)
    ∧ (s.queries.all (·.isNone) = false → s.part = .starting ∧ s.lastCause ≠ .link)
    ∧ (s.linkResetDue = true → s.part = .ready) ∧ (s.part = .ready → s.passWrites = [])
    ∧ (s.part = .starting → s.lastCause = .link → s.supplyHeld = false ∧ s.lineHeld = false)

/-- All of it, with the contents of the staging slabs in their canonical form. -/
abbrev WorkWf (s : State) : Prop :=
  KeysWf s ∧ UsesAgree s ∧ PlatesWf s ∧ SlotRecordsWf s ∧ QueueWf s ∧ JobsWf s ∧ ReadsWf s ∧ WaitsWf s ∧ SlabsAddUp s
    ∧ ExtentsAddUp s ∧ ItemsWf s ∧ FundsWf s ∧ ReservedAgree s ∧ DeliveryWf s ∧ StartWf s ∧ StagingWf s.staging

/-- No copy lies on a unit at which a read fails at once, nor one that awaits installation (R89, R124). -/
abbrev AllReadable (s : State) : Prop :=
  (∀ x c src, copySource s x c = some src → (unitAt s src.loc.unit).state.unreadable = false)
    ∧ ∀ j ∈ s.jobs, ∀ l ∈ j.stored, (unitAt s l.unit).state.unreadable = false

end Sys2Proof.Machine
end

