-- ==== Sys2Proof/Certificates/Slice0/Obligations.lean ====
section
/-! DEFINITION. The statements for the provers. A hypothesis `Acts c s` says that the part is READY and takes
the request c now; the log entries named below are those of notes/assumptions. -/

open Sys2Proof Sys2Proof.Machine

/-! ### The whole machine -/

/-- A step runs the command at the front of the queue on the state with the queue's rest. On an empty queue the
block idles (the model's choice, log 1). -/
def Obligations.StepRunsFrontCommand : Prop :=
  ∀ s : State, (s.pending = [] → step s = .next s)
    ∧ ∀ c rest, s.pending = c :: rest → step s = exec c { s with pending := rest }

/-- Every command, from every state, answers a next state and leaves the queue of commands alone: the manual
gives no command an effect that stops the part (log 1, 3). -/
def Obligations.EveryCommandAnswersNext : Prop :=
  ∀ (c : Instr) (s : State), ∃ t, exec c s = .next t ∧ t.pending = s.pending

/-- After a POWER reset of a blank store the settings have their factory values, the store holds no record, and
the volatile work is gone (R1, R87, R92, R110, R167, R179, R180, R186, R204, R208, R216, R217); so the state meets every
invariant that the other statements say a step keeps. -/
def Obligations.ResetLeavesABlankStore : Prop :=
  (State.reset.part = .starting ∧ State.reset.lastCause = .power ∧ State.reset.date = none
     ∧ State.reset.supply = .normal ∧ State.reset.editions = [] ∧ State.reset.photos = []
     ∧ State.reset.accounts = [] ∧ State.reset.revenue = ⟨0, 0, 0, 0, 0, 0⟩ ∧ State.reset.commitLimit = 4
     ∧ State.reset.filter = ⟨true, true, true, true, true⟩
     ∧ State.reset.profiles = List.replicate 8 ⟨1, 99, 16, 48, List.range 256⟩
     ∧ State.reset.tariff.pagePrint = ⟨4000, 10, 3, 2500⟩ ∧ State.reset.tariff.pageFile = ⟨2000, 10, 3, 2500⟩
     ∧ State.reset.tariff.photoPrint = ⟨3000, 10, 0, 0⟩ ∧ State.reset.tariff.photoFile = ⟨1000, 10, 0, 0⟩
     ∧ State.reset.holders = List.replicate 64 ⟨List.replicate 16 0x20#8, 0, 0⟩
     ∧ State.reset.free = 32768 ∧ State.reset.slots = [none, none, none, none] ∧ State.reset.queue = []
     ∧ State.reset.tickets = [] ∧ State.reset.nextTicket = 1 ∧ State.reset.jobs = []
     ∧ State.reset.nextJob = 1 ∧ State.reset.orders = [] ∧ State.reset.nextOrder = 1
     ∧ State.reset.slabWait = [] ∧ State.reset.restoreWait = []
     ∧ State.reset.arm = none ∧ State.reset.held2 = false ∧ State.reset.held3 = false
     ∧ State.reset.notices = [] ∧ State.reset.queueFull = false ∧ State.reset.halfArmed = true
     ∧ State.reset.attention = false ∧ State.reset.receiver = .hunting false
     ∧ State.reset.inputBuffer = [] ∧ State.reset.outbound = .idle ∧ State.reset.passWrites = [])
  ∧ (NoticesWf State.reset ∧ TablesWf State.reset ∧ SlotsWf State.reset ∧ AccrualsAgree State.reset
     ∧ ReservedAgree State.reset ∧ WorkWf State.reset ∧ Settled State.reset)

/-- The Notice Queue stays within 128, the attention line is driven exactly while it holds a notice, the half
mark is ARMED only below 64, and the input buffer stays within 8, after every step (R194, R200, R202, R205). -/
def Obligations.NoticesStayWf : Prop := ∀ s t : State, NoticesWf s → step s = .next t → NoticesWf t

/-- Every table stays within its room: 4 slots, 64 commit-queue places held or reserved, 8 tickets, 16 jobs, 32
orders, 16,384 editions, 8 profiles, 64 holders, 4 unit positions (R1, R43, R45, R67, R96, R110, R114, R145,
R186). -/
def Obligations.TablesStayWf : Prop := ∀ s t : State, TablesWf s → step s = .next t → TablesWf t

/-- A slot's running CRC stays that of the bytes kept, and no slot keeps more than its declared size (R43, R50,
R52). -/
def Obligations.SlotsStayWf : Prop := ∀ s t : State, SlotsWf s → step s = .next t → SlotsWf t

/-- CLOSED is final: no step removes a CLOSED edition or gives it another state (R4). -/
def Obligations.ClosedIsFinal : Prop :=
  ∀ (day index : Nat) (s t : State), ClosedAt day index s → step s = .next t → ClosedAt day index t

/-- The commit limit, the notice filter, the profiles and the tariff change by no step but that of their own
requests; every reset keeps them (R87, R111, R112, R168, R204, R216). -/
def Obligations.SettingsChangeByOwnRequestOnly : Prop :=
  ∀ s t : State, step s = .next t →
    (t.commitLimit ≠ s.commitLimit → ∃ r rest, s.pending = .setCommitLimit r :: rest)
    ∧ (t.filter ≠ s.filter → ∃ r rest, s.pending = .setFilter r :: rest)
    ∧ (t.profiles ≠ s.profiles →
        (∃ r rest, s.pending = .setProfile r :: rest) ∨ ∃ r rest, s.pending = .toneTable r :: rest)
    ∧ (t.tariff ≠ s.tariff → ∃ r rest, s.pending = .setTariff r :: rest)

/-- Once SET, the date state does not become UNSET except by a POWER, BROWNOUT or LINE reset (R211). -/
def Obligations.DateStaysSet : Prop :=
  ∀ s t : State, s.date.isSome = true → step s = .next t →
    t.date.isSome = true
      ∨ ∃ rest, s.pending = .powerReset :: rest ∨ s.pending = .brownoutReset :: rest ∨ s.pending = .lineAssert :: rest

/-- No step lowers a revenue counter, or what any holder has accrued or been paid (R179, R186). That they
count on past 64 bits is the model's choice (log 34). -/
def Obligations.RevenueNeverFalls : Prop :=
  ∀ s t : State, step s = .next t →
    s.revenue.orders ≤ t.revenue.orders ∧ s.revenue.charges ≤ t.revenue.charges
    ∧ s.revenue.rights ≤ t.revenue.rights ∧ s.revenue.accruals ≤ t.revenue.accruals
    ∧ s.revenue.houseRights ≤ t.revenue.houseRights ∧ s.revenue.houseRevenue ≤ t.revenue.houseRevenue
    ∧ ∀ (k : Nat) (a b : HolderRec), s.holders[k]? = some a → t.holders[k]? = some b →
        a.accrued ≤ b.accrued ∧ a.paid ≤ b.paid

/-- The holder accruals counter stays the sum of what holders 1 to 63 have accrued, holder 0 accrues nothing, and
no holder is paid more than it has accrued, after every step (R178, R179, R186, R188). That the sums count on past
64 bits is the model's choice (log 34). -/
def Obligations.AccrualsStayInStep : Prop := ∀ s t : State, AccrualsAgree s → step s = .next t → AccrualsAgree t

/-- An account's reserved stays the sum of the reservations of its open orders, after every step (R180). -/
def Obligations.ReservedIsTheOpenReservations : Prop :=
  ∀ s t : State, ReservedAgree s → step s = .next t → ReservedAgree t

/-! ### The link -/

/-- The frame written for a well-formed request is taken as that request, with every field at its value (R190,
R195, R197, R198; the width of SUPPRESS's arm number is log 14, and the reading of RESTORE's plate, of presence bytes and of
TONE-TABLE's entries log 15, 16 and 35). -/
def Obligations.RequestsAreReadAsWritten : Prop :=
  ∀ (c : Instr) (tag code : Nat) (body : List Byte), c.wf = true → requestFrameOf c = some (tag, code, body) →
    requestOf tag code body = c

/-- A REQUEST frame met while HUNTING joins the end of the input buffer, or is discarded when the buffer holds 8;
nothing else changes (R191 to R194). -/
def Obligations.RequestFramesJoinTheBuffer : Prop :=
  ∀ (tag code : Nat) (body : List Byte) (m : Bool) (s : State),
    tag < 256 → code < 65536 → body.length ≤ 4104 → s.receiver = .hunting m →
    exec (.requestFrame tag code body) s = .next { s with
      receiver := .hunting false
      inputBuffer := if s.inputBuffer.length < 8 then s.inputBuffer ++ [⟨tag, code, body⟩] else s.inputBuffer }

/-- A DATA-IN frame met while HUNTING reaches the slot its tag names. A body of the wrong length, a FREE slot or a
tag above 3 changes nothing; an offset other than the count kept, or a slot already full, sets the mark; else the
bytes that fit are kept and stand in the slot's own slabs, the CRC takes them, the stall timer restarts, and bytes beyond
the declared size set the mark (R50, R51, R92, R191 to R193). What a holder writes into its slabs reads back from them
(R92; how the contents are listed is the model's own, log 12). -/
def Obligations.DataFramesFillTheirSlot : Prop :=
  (∀ (tag : Nat) (body : List Byte) (m : Bool) (s : State),
    tag < 256 → body.length ≤ 4104 → s.receiver = .hunting m → s.slots.length = 4 →
    exec (.dataIn tag 0 body) s = .next
      (let t := { s with receiver := .hunting false }
       if body.length < 5 ∨ 4100 < body.length then t
       else
         match s.slots[tag]? with
         | some (some x) =>
           if beNat (body.take 4) ≠ x.kept.length ∨ x.declared ≤ x.kept.length then
             { t with slots := s.slots.set tag (some { x with fault := true }) }
           else
             let b := (body.drop 4).take (x.declared - x.kept.length)
             { t with
               staging := writeHolder x.slabs x.kept.length b s.staging
               slots := s.slots.set tag (some { x with
                 kept := x.kept ++ b
                 crc := crc32Run x.crc b
                 stall := s.timeBase
                 fault := x.fault || decide (x.declared < x.kept.length + (body.drop 4).length) }) }
         | _ => t))
  ∧ (∀ (l : List Nat) (p : Nat) (b : List Byte) (m : List SlabContent),
    StagingWf m → l.Nodup → p + b.length ≤ 65536 * l.length →
    p % 65536 ≤ (slabHolds m (l.getD (p / 65536) 0)).length →
    ∀ i x, b[i]? = some x →
      (slabHolds (writeHolder l p b m) (l.getD ((p + i) / 65536) 0))[(p + i) % 65536]? = some x)

/-- Bytes that spell a frame whose check differs, whose kind the part does not accept, or a DATA-IN frame whose
code is not 0, met while HUNTING, change nothing; an opening mark with a length above 4,104 leaves the receiver
HUNTING too (R191 to R193). -/
def Obligations.DamagedFramesChangeNothing : Prop :=
  ∀ (kind tag code check : Nat) (body : List Byte) (m : Bool) (s : State),
    kind < 256 → tag < 256 → code < 65536 → check < 65536 → s.receiver = .hunting m →
    (body.length ≤ 4104 →
      check ≠ (crc16 (frameInner kind tag code body)).toNat ∨ (kind ≠ 1 ∧ kind ≠ 3) ∨ (kind = 3 ∧ code ≠ 0) →
      exec (.frameDiscard (0xA5#8 :: 0x5A#8 :: (frameInner kind tag code body ++ beBytes 2 check))) s
        = .next { s with receiver := .hunting false })
    ∧ ∀ n, 4104 < n → n < 65536 →
      exec (.frameDiscard (0xA5#8 :: 0x5A#8 :: beBytes 2 n)) s = .next { s with receiver := .hunting false }

/-- What meets a request before its own rule. While the part is STARTING every request but STATUS is answered RETRY
STARTING, whatever its body. Then a body that does not fit is refused MALFORMED, and a code that names no request
UNKNOWN-REQUEST; none changes a record (R195, cases 1 to 3). A request that cannot be taken now changes nothing: that
is the model's choice (log 2). -/
def Obligations.RequestsBeforeTheirOwnRules : Prop :=
  (∀ (c : Instr) (tag : Nat) (s : State),
     requestTag c = some tag → (∀ r, c ≠ .status r) → (∀ a b, c = .unknownRequest a b → requestOf a b [] = c) →
     s.part = .starting → Takes c s → exec c s = endsRetry tag .starting .none [] s)
  ∧ ((∀ (c : Instr) (tag : Nat) (s : State), requestTag c = some tag → requestFrameOf c = none →
     (∀ a b, c ≠ .unknownRequest a b) → Acts c s → exec c s = endsRefused tag .malformed s)
   ∧ ∀ (tag code : Nat) (s : State), requestOf tag code [] = .unknownRequest tag code →
     Acts (.unknownRequest tag code) s →
     exec (.unknownRequest tag code) s = endsRefused tag .unknownRequest s)
  ∧ (∀ (c : Instr) (tag : Nat) (s : State), requestTag c = some tag → ¬ Takes c s → exec c s = .next s)

/-- Every request that is taken drops a live suppression arm, but a SUPPRESS-ARM that sets one (R22, R23, R24). -/
def Obligations.TakenRequestsDropTheArm : Prop :=
  ∀ (c : Instr) (tag : Nat) (s t : State), requestTag c = some tag →
    (∀ a b, c = .unknownRequest a b → requestOf a b [] = c) → Takes c s → exec c s = .next t →
    t.arm ≠ none → ∃ r, c = .suppressArm r

/-! ### The work in hand -/

/-- The work in hand stays consistent after every step. Slabs belong to one holder each, and the free count with the slabs
held is 32,768 (R92); for each present unit free extents, those located on it and those under way make its capacity (R74,
R219); a photo's use count is the number of plates listing it (R34); an item that caused a repair had one to be made
(R150, R154); no account's available funds are negative (R180); the slab-wait and restore-wait lists hold no item twice, at
most 32 members, each the active item of its order in the state that waits (R152, R154, R156); content states, entries,
jobs and reads go together (R14, R81, R88, R114); while STARTING there is no volatile work (R216, R217); the staging
contents keep their canonical form (the model's own, log 12). The parts are the definitions `WorkWf` gathers. -/
def Obligations.WorkStaysWf : Prop :=
  ∀ s t : State, TablesWf s → WorkWf s → step s = .next t → WorkWf t

/-! ### Editions, pages and plates -/

/-- OPEN-EDITION creates an OPEN edition with an empty page map and no other change, or is refused by the first check
that fails; DROP-EDITION removes an OPEN edition with no page (R5, R6). -/
def Obligations.OpenAndDropEdition : Prop :=
  (∀ (tag : Nat) (r : OpenEditionReq) (s : State), Acts (.openEdition ⟨tag, some r⟩) s →
     exec (.openEdition ⟨tag, some r⟩) s =
       match s.date with
       | none => endsRefused tag .dateUnset s
       | some d =>
         if r.source ≠ 1 ∧ r.source ≠ 2 then endsRefused tag .malformed s
         else if r.index < 1 ∨ 6 < r.index ∨ 7 < r.profile ∨ (r.source = 2 ∧ 3 < r.grade) then
           endsRefused tag .outOfRange s
         else if (r.source = 1 ∧ d.today + 1 < r.day) ∨ (r.source = 2 ∧ d.today < r.day) then
           endsRefused tag .outOfRange s
         else if (findEdition s r.day r.index).isSome then endsRefused tag .duplicate s
         else if 16384 ≤ s.editions.length then endsRefused tag .tableFull s
         else
           endsDone tag [Wire.u16 r.day, .u8 r.index] { taken s with
             editions := s.editions ++ [⟨r.day, r.index, if r.source = 1 then .press else .scan,
               if r.source = 2 then r.grade else 0, r.profile, .opened, []⟩] })
  ∧ (∀ (tag : Nat) (r : EditionReq) (s : State), Acts (.dropEdition ⟨tag, some r⟩) s →
     exec (.dropEdition ⟨tag, some r⟩) s =
       match findEdition s r.day r.index with
       | none => endsRefused tag .noSuch s
       | some e =>
         if e.state ≠ .opened ∨ e.pages ≠ [] then endsRefused tag .wrongState s
         else endsDone tag [] { taken s with
           editions := s.editions.filter fun x => decide (¬ (x.day = r.day ∧ x.index = r.index)) })

/-- The reports of editions, pages, plates, photos, units, the Commit Queue, tickets, jobs and orders are answered DONE
with the records as they stand, field by field, or refused for a reference that names none, and change no record (R7, R20,
R21, R42, R71, R86, R108, R128, R165). The last two parts give the hold counts the reports carry, an entry's class, the try
of a read, the number of each named value and the bytes of a subject (R18, R30, R62, R76, R198). How the fields R198 leaves
open are laid out is the model's choice (log 14): a number and then the list's own count, no count for the four units,
PLATE-INFO's number and restored copy once, the optional places in the slab-wait list of 2 bytes, JOB-INFO's landed flag, a
job's creator and a restored copy's entry as subjects, try 0 for a read not yet sent, and kind 0 for a read without an
owner. So is the class UNIT-LIST gives such a read, that of the owner that asked for it, and the class it gives a write, that
of its subject at the request (log 14). -/
def Obligations.ReportsOfRecordsChangeNothing : Prop :=
  (∀ (tag : Nat) (s : State),
     (∀ r, Acts (.editionInfo ⟨tag, some r⟩) s → exec (.editionInfo ⟨tag, some r⟩) s =
       match findEdition s r.day r.index with
       | none => endsRefused tag .noSuch s
       | some e => endsDone tag
         ([Wire.u16 e.day, .u8 e.index, .u8 e.source.code, .u8 e.grade, .u8 e.profile, .u8 e.state.code,
             .u16 e.pages.length, .u16 e.pages.length]
           ++ (e.pages.flatMap fun p =>
             [Wire.u8 p.page, .u8 p.plates.length, .u8 ((p.plates.getLast?.map (·.state.code)).getD 0)])
           ++ (match e.state with
             | .closing target (some n) => [Wire.u8 target, .u32 (12000 - (s.timeBase - n).toNat)]
             | .closing target none => [Wire.u8 target, .u32 0]
             | _ => [])) (taken s))
     ∧ (∀ r, Acts (.pageInfo ⟨tag, some r⟩) s → exec (.pageInfo ⟨tag, some r⟩) s =
       match (findEdition s r.day r.index).bind (·.slot r.page) with
       | none => endsRefused tag .noSuch s
       | some p => endsDone tag
         ([Wire.u8 p.page, .u8 p.plates.length, .u16 p.plates.length] ++ p.plates.zipIdx.flatMap fun x =>
           [Wire.u8 (x.2 + 1), .u8 x.1.state.code, .u32 x.1.size,
             .u16 (plateHold s ⟨r.day, r.index, r.page, x.2 + 1⟩)]
           ++ match x.1.restored with
             | some c => [Wire.u8 1, .u8 c.profile]
             | none => [Wire.u8 0]) (taken s))
     ∧ (∀ r, Acts (.plateInfo ⟨tag, some r⟩) s → exec (.plateInfo ⟨tag, some r⟩) s =
       match resolve s r with
       | .error x => endsRefused tag x s
       | .ok x => endsDone tag
         ([Wire.u8 x.ref.plate, .u8 x.plate.state.code, .u32 x.plate.size]
           ++ (match x.plate.tiles with
             | some (w, h) => [Wire.u8 1, .u8 w, .u8 h]
             | none => [Wire.u8 0])
           ++ [Wire.u32 x.plate.check.toNat]
           ++ (match x.plate.location with
             | some l => [Wire.u8 1, .u8 l.unit, .u32 l.start]
             | none => [Wire.u8 0])
           ++ [Wire.u16 x.plate.photos.length] ++ (x.plate.photos.map fun n => Wire.u16 n)
           ++ [Wire.u8 x.plate.readFaults, .u16 (plateHold s x.ref), .u16 (copyHold s x.ref)]
           ++ (match x.plate.restored with
             | some c => [Wire.u8 1, .u8 c.loc.unit, .u32 c.loc.start, .u32 c.size, .u8 c.profile, .u16 c.repaired,
                 .u16 c.flat, .u32 c.specks]
             | none => [Wire.u8 0])) (taken s))
     ∧ (∀ n, Acts (.photoInfo ⟨tag, some n⟩) s → exec (.photoInfo ⟨tag, some n⟩) s =
       match findPhoto s n with
       | none => endsRefused tag .noSuch s
       | some p => endsDone tag
         ([Wire.u16 p.number, .u8 p.state.code, .u32 p.size, .u32 p.check.toNat]
           ++ (match p.location with
             | some l => [Wire.u8 1, .u8 l.unit, .u32 l.start]
             | none => [Wire.u8 0])
           ++ [Wire.u16 p.photoDay, .u8 p.holder, .u32 p.fee, .u8 p.share]
           ++ (match p.embargo with
             | some d => [Wire.u8 1, .u16 d]
             | none => [Wire.u8 0])
           ++ [Wire.u8 (if p.barred then 1 else 0), .u32 p.useCount, .u8 p.readFaults,
             .u16 (photoHold s p.number)]) (taken s)))
  ∧ (∀ (tag : Nat) (s : State),
     (Acts (.unitList ⟨tag, some ()⟩) s → exec (.unitList ⟨tag, some ()⟩) s =
       endsDone tag ([0, 1, 2, 3].flatMap fun u =>
         let x := unitAt s u
         [Wire.u8 x.state.code]
         ++ (if x.state = .absent then []
           else [Wire.u32 x.capacity, .u32 x.free, .u8 (if x.op = none then 1 else 2), .u8 x.failures,
             .u32 x.writeCount])
         ++ (match x.op with
           | none => []
           | some o =>
             (match o.work with
             | .write y => [Wire.u8 1] ++ y.notice.wire ++ [Wire.u8 (entryClass s y),
                 .u8 (match findEntry s y with
                   | some e => e.attempts
                   | none => 0)]
             | .read r t true => [Wire.u8 2] ++ r.subject.wire ++ r.owner.wire ++ [Wire.u8 r.owner.cls, .u8 t]
             | .read r t false =>
               [Wire.u8 2] ++ r.subject.wire ++ [Wire.u8 0, .raw [0, 0, 0, 0, 0]] ++ [Wire.u8 r.owner.cls, .u8 t])
             ++ [Wire.u32 (100 * o.limit - (s.timeBase - o.sentAt).toNat)])
         ++ [Wire.u16 (s.reads.countP fun r => decide (r.unit = u ∧ r.owner.cls = 1)),
           .u16 (s.reads.countP fun r => decide (r.unit = u ∧ r.owner.cls = 3))]) (taken s))
     ∧ (Acts (.queueList ⟨tag, some ()⟩) s → exec (.queueList ⟨tag, some ()⟩) s =
       endsDone tag ([Wire.u16 (reservedPlaces s), .u16 (64 - s.queue.length - reservedPlaces s), .u16 s.queue.length]
         ++ s.queue.flatMap fun e => e.subject.notice.wire
           ++ [Wire.u8 (match e.subject with
               | .plate _ => 1
               | .photo _ => 2
               | .restored _ => 3),
             .u8 (entryClass s e.subject), .u8 (if entryClass s e.subject = 2 ∧ s.held2 = true then 1 else 0),
             .u32 e.extents, .u8 e.attempts,
             .u8 ((if 0 ∈ e.tried then 1 else 0) + (if 1 ∈ e.tried then 2 else 0) + (if 2 ∈ e.tried then 4 else 0)
               + (if 3 ∈ e.tried then 8 else 0))]
           ++ match e.inFlight with
             | none => [Wire.u8 1]
             | some (u, n) => [Wire.u8 2, .u8 u, .u32 (100 * (match (unitAt s u).op with
                 | some o => o.limit
                 | none => s.commitLimit) - (s.timeBase - n).toNat)]) (taken s))
     ∧ (Acts (.ticketList ⟨tag, some ()⟩) s → exec (.ticketList ⟨tag, some ()⟩) s =
       endsDone tag ([Wire.u16 s.tickets.length, .u8 s.nextTicket, .u32 s.free, .u32 (s.free - 8192),
         .u16 s.tickets.length] ++ s.tickets.flatMap fun t =>
           [Wire.u8 t.number] ++ t.subject.wire ++ [Wire.u8 t.copy.code, .u8 t.state.code, .u32 t.source.size,
             .u32 t.slabs.length, .u8 t.source.loc.unit, .u8 (unitAt s t.source.loc.unit).state.code]
           ++ match t.state with
             | .pending => []
             | .reading => [Wire.u8 (readTry s (.ticket t.number))]
             | .ready (some n) => [Wire.u32 (3000 - (s.timeBase - n).toNat)]
             | .ready none => [Wire.u32 0]) (taken s)))
  ∧ (∀ (tag : Nat) (s : State),
     (∀ n, Acts (.jobInfo ⟨tag, some (some n)⟩) s → exec (.jobInfo ⟨tag, some (some n)⟩) s =
       match findJob s n with
       | none => endsRefused tag .noSuch s
       | some j => endsDone tag
         ([Wire.u8 j.number, .u8 1, .u16 j.plate.day, .u8 j.plate.index, .u8 j.plate.page, .u8 j.plate.plate,
             .u8 j.profile, .u8 j.priority.code, .u8 j.state.code]
           ++ (match j.creator with
             | none => [Wire.u8 0, .raw [0, 0, 0, 0, 0]]
             | some (o, i) => [Wire.u8 6, .u8 o, .u8 i, .raw [0, 0, 0]])
           ++ [Wire.u8 (if j.hostInterest then 1 else 0), .u16 j.waiting.length]
           ++ (j.waiting.flatMap fun x => [Wire.u8 x.1, .u8 x.2])
           ++ (match j.state with
             | .fetching => if j.landed then [Wire.u8 1] else
                 [Wire.u8 0, .u8 (((findPlate s j.plate).bind fun p => p.location.map (·.unit)).getD 0),
                   .u8 (readTry s (.job j.number))]
             | .repairing => [Wire.u32 (s.timeBase - j.entered).toNat]
             | _ => [])
           ++ [Wire.u16 j.tilesDone, .u16 (((findPlate s j.plate).bind fun p => p.tiles.map fun x => x.1 * x.2).getD 0),
             .u16 j.repaired, .u16 j.flat, .u32 j.specks, .u32 j.inputSlabs.length, .u32 j.outputSlabs.length]
           ++ (match j.state, j.stored with
             | .committing, some l => [Wire.u8 1, .u8 l.unit, .u16 (copyHold s j.plate)]
             | .committing, none => (match findEntry s (.restored j.number) with
               | some e => [Wire.u8 0, .u8 e.attempts,
                   .u8 ((if 0 ∈ e.tried then 1 else 0) + (if 1 ∈ e.tried then 2 else 0)
                     + (if 2 ∈ e.tried then 4 else 0) + (if 3 ∈ e.tried then 8 else 0))]
               | none => [Wire.u8 0, .u8 0, .u8 0])
             | _, _ => [])) (taken s))
     ∧ (Acts (.jobInfo ⟨tag, some none⟩) s → exec (.jobInfo ⟨tag, some none⟩) s =
       endsDone tag ([Wire.u16 s.jobs.length, .u8 s.nextJob, .u8 (if s.engine = none then 1 else 0),
         .u16 (queueOrder s).length] ++ (queueOrder s).flatMap fun j =>
           [Wire.u8 j.number, .u8 1, .u16 j.plate.day, .u8 j.plate.index, .u8 j.plate.page, .u8 j.plate.plate,
             .u8 j.profile, .u8 j.priority.code, .u8 j.state.code, .u16 j.tilesDone]) (taken s))
     ∧ (∀ n, Acts (.orderInfo ⟨tag, some (some n)⟩) s → exec (.orderInfo ⟨tag, some (some n)⟩) s =
       if n = 0 ∨ 255 < n then endsRefused tag .outOfRange s
       else
         match findOrder s n with
         | none => endsRefused tag .noSuch s
         | some x => endsDone tag
           ([Wire.u8 x.number, .u8 x.account, .u32 x.reservation, .u16 x.discount, .u32 x.acceptedAt.toNat,
               .u16 x.turn.length] ++ (x.turn.map fun i => Wire.u8 i)
             ++ [Wire.u16 x.items.length] ++ x.items.zipIdx.flatMap fun y =>
               let it := y.1
               [Wire.u8 it.product.code] ++ it.subject.wire
               ++ (match it.choice with
                 | .none => [Wire.u8 1, .u8 0]
                 | .auto => [Wire.u8 2, .u8 0]
                 | .profile p => [Wire.u8 3, .u8 p])
               ++ (match it.bound with
                 | .original => [Wire.u8 1, .u8 0]
                 | .restored p => [Wire.u8 2, .u8 p])
               ++ [Wire.u8 (if it.toBeMade then 1 else 0), .u8 (if it.causedRepair then 1 else 0), .u8 it.state.code]
               ++ (match it.state with
                 | .waitRestore (some n) => [Wire.u8 1, .u8 n]
                 | .waitRestore none => [Wire.u8 0]
                 | .pending => (match s.slabWait.findIdx? fun z => decide (z = (x.number, y.2 + 1)) with
                   | some k => [Wire.u8 1, .u16 (k + 1)]
                   | none => [Wire.u8 0])
                 | .fetching => [Wire.u8 ((it.source.map (·.loc.unit)).getD 0),
                     .u8 (readTry s (.item x.number (y.2 + 1)))]
                 | .ready timer => [Wire.u32 ((it.source.map (·.size)).getD 0), .u32 it.slabs.length,
                     .u32 (match timer with
                       | some n => 30000 - (s.timeBase - n).toNat
                       | none => 0)]
                 | _ => [])
               ++ (match it.bound, it.copyTiles with
                 | .restored _, some k => [Wire.u8 1, .u16 k]
                 | .restored _, none => [Wire.u8 0]
                 | .original, _ => [])
               ++ (match it.state with
                 | .cancelled reason => [Wire.u8 reason.code]
                 | _ => [])) (taken s))
     ∧ (Acts (.orderInfo ⟨tag, some none⟩) s → exec (.orderInfo ⟨tag, some none⟩) s =
       endsDone tag ([Wire.u16 s.orders.length, .u8 s.nextOrder, .u16 s.slabWait.length, .u16 s.restoreWait.length,
         .u16 s.orders.length] ++ s.orders.flatMap fun x =>
           [Wire.u8 x.number, .u8 x.account, .u32 x.reservation, .u16 x.items.length]
           ++ [1, 2, 3, 4, 5, 6, 7].map fun c => Wire.u16 (x.items.countP fun i => decide (i.state.code = c))) (taken s)))
  ∧ (∀ s : State,
     (∀ r, plateHold s r = (s.tickets.countP fun t => decide (t.subject = .plate r))
         + (s.jobs.countP fun j => decide (j.plate = r))
         + ((s.orders.flatMap (·.items)).countP fun i => i.live && decide (i.subject = .plate r)))
     ∧ (∀ n, photoHold s n = (s.tickets.countP fun t => decide (t.subject = .photo n))
         + ((s.orders.flatMap (·.items)).countP fun i => i.live && decide (i.subject = .photo n)))
     ∧ (∀ r, copyHold s r = match (findPlate s r).bind (·.restored) with
         | none => 0
         | some c => (s.tickets.countP fun t => decide (t.subject = .plate r ∧ t.copy = .restored))
           + ((s.orders.flatMap (·.items)).countP fun i =>
               i.live && decide (i.subject = .plate r ∧ i.bound = .restored c.profile)))
     ∧ (∀ x, entryClass s x = match x with
         | .plate r => if (findEdition s r.day r.index).any Edition.isClosing then 0 else 2
         | _ => 2)
     ∧ ∀ o, readTry s o = ((s.units.filterMap fun x => match x.op with
         | some ⟨_, .read r t true, _, _⟩ => if r.owner = o then some t else none
         | _ => none).head?).getD 0)
  ∧ ([Source.press, .scan].map Source.code = [1, 2]
     ∧ (EditionState.opened.code = 1 ∧ (∀ k n, (EditionState.closing k n).code = 2) ∧ EditionState.closed.code = 3)
     ∧ [ContentState.receiving, .queued, .committing, .stored, .incomplete, .failed, .suppressed].map ContentState.code
         = [1, 2, 3, 4, 5, 6, 7]
     ∧ [Copy.original, .restored].map Copy.code = [1, 2]
     ∧ [UnitState.absent, .online, .readOnly, .offline, .faulted].map UnitState.code = [1, 2, 3, 4, 5]
     ∧ (TicketState.pending.code = 1 ∧ TicketState.reading.code = 2 ∧ ∀ n, (TicketState.ready n).code = 3)
     ∧ [Priority.desk, .order, .routine].map Priority.code = [1, 2, 3]
     ∧ [JobState.waiting, .fetching, .repairing, .repaired, .committing].map JobState.code = [1, 2, 3, 4, 5]
     ∧ [Product.pagePrint, .pageFile, .photoPrint, .photoFile].map Product.code = [1, 2, 3, 4]
     ∧ (∀ k n r, [ItemState.pending, .waitRestore k, .waitEmbargo, .fetching, .ready n, .collected, .cancelled r].map
         ItemState.code = [1, 2, 3, 4, 5, 6, 7])
     ∧ [CancelReason.orderCancelled, .expired, .fetchFailed, .restoreFailed, .jobCancelled, .barred, .suppressed].map
         CancelReason.code = [1, 2, 3, 4, 5, 6, 7]
     ∧ (∀ r, Subject.wire (.plate r) = [Wire.u8 1, .u16 r.day, .u8 r.index, .u8 r.page, .u8 r.plate])
     ∧ (∀ n, Subject.wire (.photo n) = [Wire.u8 2, .u16 n, .raw [0, 0, 0]])
     ∧ (∀ n, Owner.wire (.ticket n) = [Wire.u8 4, .u8 n, .raw [0, 0, 0, 0]])
     ∧ (∀ n, Owner.wire (.job n) = [Wire.u8 5, .u8 n, .raw [0, 0, 0, 0]])
     ∧ (∀ o i, Owner.wire (.item o i) = [Wire.u8 6, .u8 o, .u8 i, .raw [0, 0, 0]])
     ∧ (∀ r, (EntrySubject.plate r).notice.wire = [Wire.u8 1, .u16 r.day, .u8 r.index, .u8 r.page, .u8 r.plate])
     ∧ (∀ n, (EntrySubject.photo n).notice.wire = [Wire.u8 2, .u16 n, .raw [0, 0, 0]])
     ∧ ∀ j, (EntrySubject.restored j).notice.wire = [Wire.u8 5, .u8 j, .raw [0, 0, 0, 0]])

/-- SUPPRESS-ARM sets the arm on a STORED plate of a CLOSED edition, numbered by the low 16 bits of the time base, 1 for
0; LATEST is MALFORMED before the rest is looked at (log 17). SUPPRESS is refused BAD-ARM unless the live arm names its plate
and number (LATEST, which no arm names, among them: log 17), and PLATE-BUSY while a job on the plate is COMMITTING. Else the
plate's tickets are freed, its job ends with JOB-FAILED and its live items are cancelled one after another (log 10); the
plate is SUPPRESSED without its restored copy, all else of it as before, PLATE-SUPPRESSED is raised and DONE carries the
counts. From a state in which the work in hand is consistent no job and no live item of the plate is left, and all its live
items are counted unless the read of an item is at a unit that cannot be read (R22, R24 to R26, R162). PLATE-SUPPRESSED comes
after every notice of the cancellations and of what they let go on (the model's reading, log 11); that the arm number has 2
bytes is the model's choice (log 14). -/
def Obligations.SuppressionWithdrawsThePlate : Prop :=
  (∀ (tag : Nat) (r : PlateReq) (s : State), Acts (.suppressArm ⟨tag, some r⟩) s →
     exec (.suppressArm ⟨tag, some r⟩) s =
       if r.plate = latest then endsRefused tag .malformed s
       else
         match resolve s r with
         | .error x => endsRefused tag x s
         | .ok x =>
           if x.edition.state ≠ .closed then endsRefused tag .wrongState s
           else if x.plate.state = .suppressed then endsRefused tag .suppressed s
           else if x.plate.state ≠ .stored then endsRefused tag .wrongState s
           else
             let n := if s.timeBase.toNat % 65536 = 0 then 1 else s.timeBase.toNat % 65536
             endsDone tag [Wire.u16 n] { taken s with arm := some ⟨x.ref, n, s.timeBase⟩ })
  ∧ (∀ (tag : Nat) (r : PlateReq) (n : Nat) (s : State), Acts (.suppress ⟨tag, some ⟨r, n⟩⟩) s →
     ((∀ a, s.arm = some a → a.plate ≠ ⟨r.day, r.index, r.page, r.plate⟩ ∨ a.number ≠ n) →
       exec (.suppress ⟨tag, some ⟨r, n⟩⟩) s = endsRefused tag .badArm s)
     ∧ ∀ a, s.arm = some a → a.plate = ⟨r.day, r.index, r.page, r.plate⟩ → a.number = n →
       ((∃ j, jobOn s a.plate = some j ∧ j.state = .committing) →
         exec (.suppress ⟨tag, some ⟨r, n⟩⟩) s = endsRefused tag .plateBusy s)
       ∧ ∀ p, (∀ j, jobOn s a.plate = some j → j.state ≠ .committing) → findPlate s a.plate = some p →
         let x : Subject := .plate a.plate
         let u := freeTicketsOn x (taken s)
         let v := match jobOn s a.plate with
           | none => u
           | some j => raise .jobFailed (.job j.number)
               (x.wire ++ [Wire.u8 j.profile, .u8 4, .u16 j.waiting.length]) (detachItems j.waiting (endJob j u))
         let w := drainTally ((liveItemsOn v x).map fun y => .cancel y.1 y.2 .suppressed) v
         let counts := [Wire.u16 (ticketHolds s x), .u16 (jobHolds s a.plate), .u16 w.cancelled]
         ∃ t, exec (.suppress ⟨tag, some ⟨r, n⟩⟩) s = endsDone tag counts t
           ∧ t = raise .plateSuppressed (.plate a.plate) counts
               (modifyPlate a.plate (fun y => { y with restored := none, state := .suppressed })
                 (match (findPlate w.state a.plate).bind (·.restored) with
                   | some c => returnExtents c.loc ((c.size + 65535) / 65536) w.state
                   | none => w.state))
           ∧ findPlate t a.plate = some { p with state := .suppressed, restored := none }
           ∧ t.arm = none ∧ (∀ y ∈ t.tickets, y.subject ≠ x)
           ∧ (TablesWf s → WorkWf s →
               (∀ j ∈ t.jobs, j.plate ≠ a.plate) ∧ (∀ it ∈ openItems t, it.subject = x → it.live = false)
               ∧ w.cancelled ≤ itemHolds s x ∧ (AllReadable s → w.cancelled = itemHolds s x)))

/-! ### Photos -/

/-- FILE-PHOTO files a new photo, or refills one that is INCOMPLETE or FAILED keeping its bar, its use count and its
read faults; it binds the lowest FREE slot, takes the slabs (which of them is free: log 12) and changes nothing else (R31,
R32, R44). -/
def Obligations.FilePhotoBindsASlot : Prop :=
  ∀ (tag : Nat) (r : FilePhotoReq) (s : State), Acts (.filePhoto ⟨tag, some r⟩) s →
    exec (.filePhoto ⟨tag, some r⟩) s =
      if r.photo = 0 then endsRefused tag .outOfRange s
      else if r.size = 0 ∨ 67108864 < r.size ∨ 63 < r.holder ∨ 10000000 < r.fee ∨ 100 < r.share then
        endsRefused tag .outOfRange s
      else if (findPhoto s r.photo).any fun p => decide (p.state ≠ .incomplete ∧ p.state ≠ .failed) then
        endsRefused tag .duplicate s
      else
        match s.slots.findIdx? Option.isNone with
        | none => endsRetry tag .noSlot .none [] s
        | some k =>
          if freePlaces s = 0 then endsRefused tag .queueFull s
          else if s.free < (r.size + 65535) / 65536 then endsRefused tag .stagingFull s
          else
            endsDone tag [Wire.u8 k] { taken s with
              photos :=
                match findPhoto s r.photo with
                | none => s.photos ++ [⟨r.photo, .receiving, r.size, r.check, none, r.photoDay, r.holder, r.fee,
                    r.share, r.embargo, false, 0, 0⟩]
                | some _ => s.photos.map fun p => if p.number = r.photo then
                    ⟨p.number, .receiving, r.size, r.check, p.location, r.photoDay, r.holder, r.fee, r.share,
                      r.embargo, p.barred, p.useCount, p.readFaults⟩
                    else p
              free := s.free - (r.size + 65535) / 65536
              freeCount := s.freeCount + 1
              slots := s.slots.set k (some ⟨.photo r.photo, .photo, r.size, r.check, [], false, 0xFFFFFFFF#32,
                grantedSlabs ((r.size + 65535) / 65536) s, s.timeBase⟩) }

/-- SET-RIGHTS replaces the four rights and lets the items the photo's embargo held back go on; UNBAR-PHOTO clears the
barred flag alone; BAR-PHOTO frees every ticket on the photo, cancels its live items one after another (log 10), sets the
flag, and counts both in PHOTO-BARRED, raised last, after what the request lets go on (the model's reading, log 11), and in
its DONE: from a state in which the work in hand is consistent no live item of the
photo is left, and all are counted unless the read of an item is at a unit that cannot be read (R35 to R38, R162). The
re-check names, for each order in acceptance order, its WAIT-EMBARGO items in list order whose photo is free today, and for
SET-RIGHTS its photo alone; they return to PENDING with the mark set, directly after the active item, or into an empty turn
list, where the first becomes active (R36, R152, R159). -/
def Obligations.RightsAndBars : Prop :=
  (∀ (tag : Nat) (s : State),
     (∀ r, Acts (.setRights ⟨tag, some r⟩) s → exec (.setRights ⟨tag, some r⟩) s =
       if (findPhoto s r.photo).isNone then endsRefused tag .noSuch s
       else if 63 < r.holder ∨ 10000000 < r.fee ∨ 100 < r.share then endsRefused tag .outOfRange s
       else
         let t := { taken s with photos := s.photos.map fun p => if p.number = r.photo then
           { p with holder := r.holder, fee := r.fee, share := r.share, embargo := r.embargo } else p }
         endsDone tag [] (drain (recheck t (some r.photo)) t))
     ∧ ∀ n, Acts (.unbarPhoto ⟨tag, some n⟩) s → exec (.unbarPhoto ⟨tag, some n⟩) s =
       if (findPhoto s n).isNone then endsRefused tag .noSuch s
       else endsDone tag [] { taken s with
         photos := s.photos.map fun p => if p.number = n then { p with barred := false } else p })
  ∧ (∀ (tag n : Nat) (s : State), Acts (.barPhoto ⟨tag, some n⟩) s →
     (findPhoto s n = none → exec (.barPhoto ⟨tag, some n⟩) s = endsRefused tag .noSuch s)
     ∧ ∀ p, findPhoto s n = some p →
       let u := freeTicketsOn (.photo n) (taken s)
       let w := drainTally ((liveItemsOn u (.photo n)).map fun y => .cancel y.1 y.2 .barred) u
       let counts := [Wire.u16 (ticketHolds s (.photo n)), .u16 w.cancelled]
       ∃ t q, exec (.barPhoto ⟨tag, some n⟩) s = endsDone tag counts t
         ∧ t = raise .photoBarred (.photo n) counts { w.state with
             photos := w.state.photos.map fun y => if y.number = n then { y with barred := true } else y }
         ∧ findPhoto t n = some q ∧ q.barred = true ∧ (∀ x ∈ t.tickets, x.subject ≠ .photo n)
         ∧ (TablesWf s → WorkWf s →
             (∀ it ∈ openItems t, it.subject = .photo n → it.live = false)
             ∧ w.cancelled ≤ itemHolds s (.photo n) ∧ (AllReadable s → w.cancelled = itemHolds s (.photo n))))
  ∧ (∀ (s : State) (only : Option Nat),
     recheck s only = s.orders.filterMap fun x =>
       let l := (List.range x.items.length).filterMap fun k =>
         match x.items[k]? with
         | some it =>
           match it.subject with
           | .photo n =>
             if it.state = .waitEmbargo ∧ (only = none ∨ only = some n)
                 ∧ ¬ ∃ p, findPhoto s n = some p ∧ ∃ e, p.embargo = some e ∧ today s < e then some (k + 1) else none
           | .plate _ => none
         | none => none
       if l = [] then none else some (.returnItems x.number l))
  ∧ ∀ (o : Nat) (l : List Nat) (x : OrderRec) (s : State), findOrder s o = some x → l.Nodup →
     (∀ i ∈ l, (findItem s o i).map (·.state) = some .waitEmbargo) →
     let t := l.foldl (fun s i => modifyItem o i (fun it => { it with state := .pending, embargoPassed := true }) s) s
     perform (.returnItems o l) s =
       (modifyOrder o (fun y => { y with turn := match x.turn with
           | [] => l
           | a :: rest => a :: (l ++ rest) }) t,
         if x.turn = [] then [.activate o] else [])

/-- REMOVE-PHOTO is refused while the photo is received or committed, named by a plate or held; else the record
goes, with its commit entry or its extents (R39). -/
def Obligations.RemovePhotoDeletesTheRecord : Prop :=
  ∀ (tag n : Nat) (s : State), Acts (.removePhoto ⟨tag, some n⟩) s →
    exec (.removePhoto ⟨tag, some n⟩) s =
      match findPhoto s n with
      | none => endsRefused tag .noSuch s
      | some p =>
        if p.state = .receiving ∨ p.state = .committing then endsRefused tag .plateBusy s
        else if p.useCount ≠ 0 ∨ photoHold s n ≠ 0 then endsRefused tag .held s
        else
          let t := match p.state, p.location with
            | .queued, _ => removeEntry (.photo p.number) (taken s)
            | .stored, some l => returnExtents l ((p.size + 65535) / 65536) (taken s)
            | _, _ => taken s
          endsDone tag [] (drain [] { t with photos := s.photos.filter fun q => decide (q.number ≠ n) })

/-! ### Deposit and edition close -/

/-- DEPOSIT pushes a RECEIVING plate on its page, numbered depth + 1, counts a use of each photo listed, binds the
lowest FREE slot and takes the slabs (which of them is free: log 12), or is answered by the first check that fails (R9, R34,
R44, R46, R47). -/
def Obligations.DepositPushesAPlate : Prop :=
  ∀ (tag : Nat) (r : DepositReq) (s : State), Acts (.deposit ⟨tag, some r⟩) s →
    exec (.deposit ⟨tag, some r⟩) s =
      match findEdition s r.day r.index with
      | none => endsRefused tag .noSuch s
      | some e =>
        if e.state ≠ .opened then endsRefused tag .wrongState s
        else if r.page = 0 ∨ 192 < r.page then endsRefused tag .outOfRange s
        else if e.source = .press ∧ (r.size = 0 ∨ 134217728 < r.size) then endsRefused tag .outOfRange s
        else if e.source = .scan ∧ (r.width = 0 ∨ 128 < r.width ∨ r.height = 0 ∨ 192 < r.height) then
          endsRefused tag .outOfRange s
        else if e.source = .scan ∧ r.size ≠ r.width * r.height * 4096 then endsRefused tag .malformed s
        else if 16 < r.photos.length then endsRefused tag .malformed s
        else if ∃ n ∈ r.photos, findPhoto s n = none then endsRefused tag .noSuch s
        else if ¬ r.photos.Nodup then endsRefused tag .duplicate s
        else if 8 ≤ e.depth r.page then endsRefused tag .stackFull s
        else
          match s.slots.findIdx? Option.isNone with
          | none => endsRetry tag .noSlot .none [] s
          | some k =>
            if freePlaces s = 0 then endsRefused tag .queueFull s
            else if s.free < (r.size + 65535) / 65536 then endsRefused tag .stagingFull s
            else
              let p : Plate := ⟨.receiving, r.size, if e.source = .scan then some (r.width, r.height) else none,
                r.check, none, r.photos, none, 0⟩
              endsDone tag [Wire.u8 k, .u8 (e.depth r.page + 1)] { taken s with
                editions := s.editions.map fun x =>
                  if x.day = r.day ∧ x.index = r.index then pushPlate r.page p x else x
                photos := s.photos.map fun x =>
                  if x.number ∈ r.photos then { x with useCount := x.useCount + 1 } else x
                free := s.free - (r.size + 65535) / 65536
                freeCount := s.freeCount + 1
                slots := s.slots.set k (some ⟨.plate ⟨r.day, r.index, r.page, e.depth r.page + 1⟩, .push, r.size,
                  r.check, [], false, 0xFFFFFFFF#32, grantedSlabs ((r.size + 65535) / 65536) s, s.timeBase⟩) }

/-- A push puts the plate on top of its page's stack as plate depth + 1 and leaves every plate below it and every
other page as they were; in an edition whose page map ascends and holds no empty slot, the removal of that plate
gives the edition back (R3, R8, R9, R10). -/
def Obligations.PushThenRemoveGivesBack : Prop :=
  ∀ (page : Nat) (p : Plate) (e : Edition),
    (pushPlate page p e).depth page = e.depth page + 1
    ∧ ((pushPlate page p e).slot page).bind (·.plate (e.depth page + 1)) = some p
    ∧ (∀ k, k ≠ e.depth page + 1 →
        ((pushPlate page p e).slot page).bind (·.plate k) = (e.slot page).bind (·.plate k))
    ∧ (∀ q, q ≠ page → (pushPlate page p e).slot q = e.slot q)
    ∧ ((e.pages.map (·.page)).Pairwise (· < ·) → (∀ x ∈ e.pages, x.plates ≠ []) →
        popPlate page (pushPlate page p e) = e)

/-- REDEPOSIT refills a plate that is INCOMPLETE or FAILED in place, with use counts following a new list, and binds
a slot of kind REFILL, or is answered by the first check that fails (R11, R34, R48, R49). LATEST is refused MALFORMED
before the key and page are looked at (log 17); which slabs are granted is free (log 12). -/
def Obligations.RedepositRefillsThePlate : Prop :=
  ∀ (tag : Nat) (r : RedepositReq) (s : State), Acts (.redeposit ⟨tag, some r⟩) s →
    exec (.redeposit ⟨tag, some r⟩) s =
      if r.plate.plate = latest then endsRefused tag .malformed s
      else
        match resolve s r.plate with
        | .error x => endsRefused tag x s
        | .ok x =>
          if x.edition.state ≠ .opened then endsRefused tag .wrongState s
          else if x.plate.state ≠ .incomplete ∧ x.plate.state ≠ .failed then endsRefused tag .wrongState s
          else if plateHold s x.ref ≠ 0 then endsRefused tag .held s
          else if x.edition.source = .press ∧ (r.size = 0 ∨ 134217728 < r.size) then endsRefused tag .outOfRange s
          else if x.edition.source = .scan ∧ (r.width = 0 ∨ 128 < r.width ∨ r.height = 0 ∨ 192 < r.height) then
            endsRefused tag .outOfRange s
          else if x.edition.source = .scan ∧ r.size ≠ r.width * r.height * 4096 then endsRefused tag .malformed s
          else if 16 < (r.photos.getD []).length then endsRefused tag .malformed s
          else if ∃ n ∈ r.photos.getD [], findPhoto s n = none then endsRefused tag .noSuch s
          else if ¬ (r.photos.getD []).Nodup then endsRefused tag .duplicate s
          else
            match s.slots.findIdx? Option.isNone with
            | none => endsRetry tag .noSlot .none [] s
            | some k =>
              if freePlaces s = 0 then endsRefused tag .queueFull s
              else if s.free < (r.size + 65535) / 65536 then endsRefused tag .stagingFull s
              else
                let new := r.photos.getD x.plate.photos
                endsDone tag [Wire.u8 k] { modifyPlate x.ref (fun p => { p with
                    state := .receiving, size := r.size, check := r.check, photos := r.photos.getD p.photos
                    tiles := if x.edition.source = .scan then some (r.width, r.height) else none }) (taken s) with
                  photos := s.photos.map fun y =>
                    if y.number ∈ x.plate.photos ∧ y.number ∉ new then { y with useCount := y.useCount - 1 }
                    else if y.number ∈ new ∧ y.number ∉ x.plate.photos then { y with useCount := y.useCount + 1 }
                    else y
                  free := s.free - (r.size + 65535) / 65536
                  freeCount := s.freeCount + 1
                  slots := s.slots.set k (some ⟨.plate x.ref, .refill, r.size, r.check, [], false, 0xFFFFFFFF#32,
                    grantedSlabs ((r.size + 65535) / 65536) s, s.timeBase⟩) }

/-- DEPOSIT-END makes the record QUEUED and its slot an entry at the tail of the Commit Queue when the count, the
mark and the CRC are right; else the record is FAILED with the first reason, its slot and slabs free (R55 to
R57). -/
def Obligations.DepositEndQueuesOrFails : Prop :=
  ∀ (tag k : Nat) (s : State), Acts (.depositEnd ⟨tag, some k⟩) s →
    exec (.depositEnd ⟨tag, some k⟩) s =
      if 3 < k then endsRefused tag .outOfRange s
      else
        match s.slots[k]? with
        | some (some x) =>
          let failing (reason : Reason) : Answered :=
            endsDone tag [Wire.u8 2, .u8 reason.code, .u32 x.kept.length, .u32 x.declared]
              (drain [] (setContent x.record .failed
                { taken s with slots := s.slots.set k none, free := s.free + x.slabs.length }))
          if x.kept.length ≠ x.declared then failing .short
          else if x.fault then failing .sequence
          else if ~~~x.crc ≠ x.check then failing .checkMismatch
          else
            endsDone tag [Wire.u8 1, .u32 x.kept.length, .u16 (s.queue.length + 1)]
              { setContent x.record .queued (taken s) with
                slots := s.slots.set k none
                queue := s.queue ++ [⟨x.record.entry, (x.declared + 65535) / 65536, x.check, x.kept, x.slabs, 0, [],
                  none⟩] }
        | _ => endsRefused tag .noSuch s

/-- WITHDRAW-PLATE removes the top plate of a page of an OPEN edition when nothing commits or holds it, gives back what the
plate held, and reports the new depth (R10, R58, R59). LATEST is refused MALFORMED before the key and page are looked at (log
17). A return of extents to a present unit, here and wherever a statement has one, raises its free extents and sends it the
release with the start extent and the count, and at an ABSENT position changes nothing (R74). -/
def Obligations.WithdrawPlateRemovesTheTop : Prop :=
  (∀ (l : Location) (n : Nat) (s : State), returnExtents l n s =
    if (unitAt s l.unit).state = .absent then s
    else { s with
      units := s.units.modify l.unit fun x => { x with free := x.free + n }
      chainOut := s.chainOut ++ [.release l.unit l.start n] })
  ∧ (∀ (x : PlateRef) (p : Plate) (s : State),
    (p.state = .receiving → giveBackPlate x p s = releaseSlotOf (.plate x) s)
    ∧ (p.state = .queued → giveBackPlate x p s = removeEntry (.plate x) s)
    ∧ (p.state = .stored → giveBackPlate x p s =
        let t := match p.location with
          | some l => returnExtents l ((p.size + 65535) / 65536) s
          | none => s
        match p.restored with
        | some c => returnExtents c.loc ((c.size + 65535) / 65536) t
        | none => t)
    ∧ (p.state = .incomplete ∨ p.state = .failed → giveBackPlate x p s = s))
  ∧ ∀ (tag : Nat) (r : PlateReq) (s : State), Acts (.withdrawPlate ⟨tag, some r⟩) s →
    exec (.withdrawPlate ⟨tag, some r⟩) s =
      if r.plate = latest then endsRefused tag .malformed s
      else
        match resolve s r with
        | .error x => endsRefused tag x s
        | .ok x =>
          if x.edition.state ≠ .opened then endsRefused tag .wrongState s
          else if x.ref.plate < x.slot.plates.length then endsRefused tag .wrongState s
          else if x.plate.state = .committing then endsRefused tag .plateBusy s
          else if plateHold s x.ref ≠ 0 then endsRefused tag .held s
          else
            let t := giveBackPlate x.ref x.plate (taken s)
            endsDone tag [Wire.u8 (x.slot.plates.length - 1)] (drain [] { t with
              editions := s.editions.map fun e =>
                if e.day = r.day ∧ e.index = r.index then popPlate r.page e else e
              photos := s.photos.map fun p =>
                if p.number ∈ x.plate.photos then { p with useCount := p.useCount - 1 } else p })

/-- CLOSE-EDITION closes at once an edition whose plates are all STORED or SUPPRESSED, starts the close of one with
plates still to store, and refuses the rest in R60's order (R60, R61). -/
def Obligations.CloseEditionClosesOrStarts : Prop :=
  ∀ (tag : Nat) (r : CloseReq) (s : State), Acts (.closeEdition ⟨tag, some r⟩) s →
    exec (.closeEdition ⟨tag, some r⟩) s =
      match findEdition s r.day r.index with
      | none => endsRefused tag .noSuch s
      | some e =>
        let become (st : EditionState) : State := { taken s with
          editions := s.editions.map fun x =>
            if x.day = r.day ∧ x.index = r.index then { x with state := st } else x }
        if e.state ≠ .opened then endsRefused tag .wrongState s
        else if r.expected = 0 ∨ 192 < r.expected then endsRefused tag .outOfRange s
        else if e.pages.length ≠ r.expected then
          .next (replied tag (.refused .countMismatch [Wire.u16 e.pages.length]) (taken s))
        else
          match e.firstUnsettled with
          | some (page, n, st) => .next (replied tag (.refused .unsettled [Wire.u8 page, .u8 n, .u8 st.code]) (taken s))
          | none =>
            if e.unstored = 0 then
              endsDone tag [Wire.u8 1]
                (raise .editionClosed (.edition r.day r.index) [Wire.u16 e.pages.length] (become .closed))
            else
              endsDone tag [Wire.u8 2, .u16 e.unstored] (become (.closing r.expected (some s.timeBase)))

/-- The stall timer of a slot ends its deposit after 20 s: a PUSH plate still on top is removed, any other record
becomes FAILED, and DEPOSIT-STALLED reports it; the close timer returns a CLOSING edition to OPEN after 120 s with
CLOSE-FAILED (R53, R65, R210). With no slot bound, or before it is due, an expiry changes nothing, and it acts at its tick
or any later one (the model's choices, log 3 and 21). -/
def Obligations.DepositTimersExpire : Prop :=
  ∀ s : State,
    (∀ k x, s.slots[k]? = some (some x) → exec (.stallTimerExpiry k) s =
      if (s.timeBase - x.stall).toNat < 2000 then .next s
      else
        match x.kind, x.record with
        | .push, .plate r =>
          match onTop s r, findPlate s r with
          | true, some p => .next (drain [] (raise .depositStalled (.plate r)
              [Wire.u32 x.kept.length, .u32 x.declared, .u8 1] (removePlate r p s)))
          | _, _ => .next (drain [] (raise .depositStalled (.plate r) [Wire.u32 x.kept.length, .u32 x.declared, .u8 2]
              (setContent x.record .failed { s with slots := s.slots.set k none, free := s.free + x.slabs.length })))
        | _, _ => .next (drain [] (raise .depositStalled x.record.notice
            [Wire.u32 x.kept.length, .u32 x.declared, .u8 2]
            (setContent x.record .failed { s with slots := s.slots.set k none, free := s.free + x.slabs.length }))))
    ∧ (∀ k, slotAt s k = none → exec (.stallTimerExpiry k) s = .next s)
    ∧ ∀ day index e target start, findEdition s day index = some e → e.state = .closing target (some start) →
      exec (.closeTimerExpiry day index) s =
        if (s.timeBase - start).toNat < 12000 then .next s
        else .next (raise .closeFailed (.edition day index) [Wire.u8 2, .u16 e.unstored] { s with
          editions := s.editions.map fun x =>
            if x.day = day ∧ x.index = index then { x with state := .opened } else x })

/-! ### Medium units and the Commit Engine -/

/-- An IDLE unit's arbiter takes work the unit can serve, of the highest class that has any, and the first such in its
order: no work it passes over in a higher class, or earlier in the same class, can be served (R76, R77, R88). A unit
serves a commit entry only while it is ONLINE with room for it, the supply NORMAL, no write hold and the class not held;
a second or third attempt passes over a unit already tried while an untried ONLINE unit has room. It serves a read aimed at
it while it is ONLINE or READ-ONLY and the class not held, whatever the supply and the write hold (R68, R79, R80, R88,
R215). -/
def Obligations.ArbiterTakesTheFirstOfTheHighestClass : Prop :=
  (∀ (s : State) (u : Nat),
     ((unitAt s u).op ≠ none → arbiterChoice s u = none)
     ∧ (∀ e, arbiterChoice s u = some (.commit e) →
         e ∈ s.queue ∧ canCommit s u e = true
         ∧ (∃ a b, s.queue = a ++ e :: b
             ∧ ∀ f ∈ a, entryClass s f.subject = entryClass s e.subject → canCommit s u f = false)
         ∧ (∀ f ∈ s.queue, entryClass s f.subject < entryClass s e.subject → canCommit s u f = false)
         ∧ ∀ r ∈ s.reads, r.owner.cls < entryClass s e.subject → canRead s u r = false)
     ∧ (∀ r, arbiterChoice s u = some (.read r) →
         r ∈ s.reads ∧ canRead s u r = true
         ∧ (∃ a b, s.reads = a ++ r :: b ∧ ∀ q ∈ a, q.owner.cls = r.owner.cls → canRead s u q = false)
         ∧ (∀ q ∈ s.reads, q.owner.cls < r.owner.cls → canRead s u q = false)
         ∧ ∀ f ∈ s.queue, entryClass s f.subject < r.owner.cls → canCommit s u f = false)
     ∧ (arbiterChoice s u = none → (unitAt s u).op = none →
         (∀ e ∈ s.queue, canCommit s u e = false) ∧ ∀ r ∈ s.reads, canRead s u r = false))
  ∧ (∀ (s : State) (u : Nat) (e : Entry), canCommit s u e = true ↔
     e.inFlight = none ∧ (unitAt s u).state = .online ∧ e.extents ≤ (unitAt s u).free
       ∧ s.supply = .normal ∧ s.writeHold = none
       ∧ (entryClass s e.subject = 2 → s.held2 = false) ∧ (entryClass s e.subject = 3 → s.held3 = false)
       ∧ (e.attempts = 0 ∨ u ∉ e.tried
         ∨ ∀ v, v < s.units.length → v ∉ e.tried → (unitAt s v).state = .online → (unitAt s v).free < e.extents))
  ∧ ∀ (s : State) (u : Nat) (r : Read), canRead s u r = true ↔
     r.unit = u ∧ ((unitAt s u).state = .online ∨ (unitAt s u).state = .readOnly)
       ∧ ((∃ o i, r.owner = .item o i) ∨ (∃ n, r.owner = .job n) → s.held3 = false)

/-- COMMIT_GRANT sends the arbiter's entry to its unit: in flight, its attempt counted, the unit in its set tried,
the extents taken, the unit BUSY, a plate or photo COMMITTING. READ_GRANT sends try 1 of the arbiter's read and
makes a ticket READING. A grant of other work, or of none, is no event (R72, R82, R88, R103; log 3). Each operation goes
out under a number of its own (the model's choice, log 30). -/
def Obligations.GrantsSendTheWork : Prop :=
  ∀ (u : Nat) (s : State), u < s.units.length →
    (∀ e, arbiterChoice s u = some (.commit e) → exec (.commitGrant u) s = .next
      { setEntryContent e.subject .committing s with
        queue := s.queue.map fun x => if x.subject = e.subject then { x with
          inFlight := some (u, s.timeBase), attempts := x.attempts + 1
          tried := if u ∈ x.tried then x.tried else x.tried ++ [u] } else x
        units := s.units.modify u fun x =>
          { x with free := x.free - e.extents, op := some ⟨s.opCount, .write e.subject, s.timeBase, s.commitLimit⟩ }
        opCount := s.opCount + 1
        chainOut := s.chainOut ++ [.writeVerify u s.opCount e.extents e.content.length e.check e.content] })
    ∧ ((∀ e, arbiterChoice s u ≠ some (.commit e)) → exec (.commitGrant u) s = .next s)
    ∧ (∀ r, arbiterChoice s u = some (.read r) → exec (.readGrant u) s = .next { s with
        reads := s.reads.filter fun x => decide (x.owner ≠ r.owner)
        units := s.units.modify u fun x => { x with op := some ⟨s.opCount, .read r 1 true, s.timeBase, s.commitLimit⟩ }
        opCount := s.opCount + 1
        chainOut := s.chainOut ++ [.read u s.opCount r.start r.extents r.size]
        tickets := s.tickets.map fun t => if .ticket t.number = r.owner then { t with state := .reading } else t })
    ∧ ((∀ r, arbiterChoice s u ≠ some (.read r)) → exec (.readGrant u) s = .next s)

/-- A unit's OK to a write stores its content: the plate or photo is STORED where the unit says, the entry has left
the queue and its slabs are back, the unit is IDLE with no failures and a write more, and CONTENT-STORED is raised; a plate
that is the last of its CLOSING edition then closes it, with EDITION-CLOSED; a restored copy's job records where its copy
lies, with no notice; no other record changes but by what the freed slabs and place let go on. An OK to a write that is no longer outstanding, one aborted among them, is discarded (R63,
R72, R73, R75, R83, R123; the number an answer carries is log 30). -/
def Obligations.WriteOkStoresTheContent : Prop :=
  ∀ (u op start : Nat) (s : State),
    (writeAt s u op = none → exec (.writeVerifyOk ⟨u, op⟩ start) s = .next s)
    ∧ ((∀ o, (unitAt s u).op = some o → o.number ≠ op) → exec (.writeVerifyOk ⟨u, op⟩ start) s = .next s)
    ∧ ∀ e, writeAt s u op = some e →
      (∃ t, exec (.writeVerifyOk ⟨u, op⟩ start) s = .next t ∧ (unitAt t u).op = none ∧ (unitAt t u).failures = 0
        ∧ (unitAt t u).writeCount = min 4294967295 ((unitAt s u).writeCount + 1)
        ∧ (∀ r p, e.subject = .plate r → findPlate s r = some p →
            findEntry t (.plate r) = none
            ∧ ∃ q, findPlate t r = some q ∧ q.state = .stored ∧ q.location = some ⟨u, start⟩
                ∧ q.size = p.size ∧ q.check = p.check)
        ∧ (∀ r x, e.subject = .plate r → findEdition (setStored (.plate r) ⟨u, start⟩ s) r.day r.index = some x →
            x.isClosing = true → x.unstored = 0 → ∃ y, findEdition t r.day r.index = some y ∧ y.state = .closed)
        ∧ ∀ n p, e.subject = .photo n → findPhoto s n = some p →
            findEntry t (.photo n) = none
            ∧ ∃ q, findPhoto t n = some q ∧ q.state = .stored ∧ q.location = some ⟨u, start⟩)
      ∧ (let stored (t : State) : State := { t with
            units := s.units.modify u fun x =>
              { x with op := none, failures := 0, writeCount := min 4294967295 (x.writeCount + 1) }
            queue := s.queue.filter fun x => decide (x.subject ≠ e.subject)
            free := s.free + e.slabs.length }
          let notice : List Wire := [Wire.u8 u, .u8 e.attempts]
          (∀ r x, e.subject = .plate r →
            let t := raise .contentStored (.plate r) notice
              (stored (modifyPlate r (fun p => { p with state := .stored, location := some ⟨u, start⟩ }) s))
            findEdition t r.day r.index = some x →
            exec (.writeVerifyOk ⟨u, op⟩ start) s = .next (drain []
              (if x.isClosing = true ∧ x.unstored = 0 then
                raise .editionClosed (.edition r.day r.index) [Wire.u16 x.pages.length] { t with
                  editions := t.editions.map fun y =>
                    if y.day = r.day ∧ y.index = r.index then { y with state := .closed } else y }
              else t)))
          ∧ ∀ n, e.subject = .photo n → exec (.writeVerifyOk ⟨u, op⟩ start) s = .next (drain []
              (raise .contentStored (.photo n) notice (stored { s with photos := s.photos.map fun p =>
                if p.number = n then { p with state := .stored, location := some ⟨u, start⟩ } else p }))))
      ∧ ∀ n, e.subject = .restored n → exec (.writeVerifyOk ⟨u, op⟩ start) s = .next (drain [] { s with
          units := s.units.modify u fun x =>
            { x with op := none, failures := 0, writeCount := min 4294967295 (x.writeCount + 1) }
          jobs := s.jobs.map fun j => if j.number = n then { j with stored := some ⟨u, start⟩ } else j
          queue := s.queue.filter fun x => decide (x.subject ≠ .restored n)
          free := s.free + e.slabs.length })

/-- A unit's ERROR to a write, or its expiry, ends the attempt: the extents return to the unit and a failure is counted, the
eighth in a row making the unit FAULTED with UNIT-FAULTED and the reads waiting for it fail. On the first or second attempt
the entry returns to pending in its place; on the third it is gone and the plate or photo is FAILED with CONTENT-FAILED, a
plate's CLOSING edition OPEN again with CLOSE-FAILED, a restored copy's job failed. An ERROR to a write no longer
outstanding is discarded (R64, R67, R73, R75, R84, R89, R125; the number an answer carries is log 30). -/
def Obligations.WriteErrorRetriesThenFails : Prop :=
  (∀ (u op : Nat) (s : State),
    ((∀ o, (unitAt s u).op = some o → o.number ≠ op) → exec (.writeVerifyError ⟨u, op⟩) s = .next s)
    ∧ ∀ e, writeAt s u op = some e →
      exec (.writeVerifyError ⟨u, op⟩) s = .next (attemptFailed u e causeError s)
      ∧ (e.attempts < 3 → (unitAt s u).failures < 7 → (unitAt s u).state ≠ .faulted →
        exec (.writeVerifyError ⟨u, op⟩) s = .next (drain [] { setEntryContent e.subject .queued s with
          queue := s.queue.map fun x => if x.subject = e.subject then { x with inFlight := none } else x
          units := s.units.modify u fun x =>
            { x with free := x.free + e.extents, failures := x.failures + 1, op := none } }))
      ∧ (3 ≤ e.attempts → ∃ t, exec (.writeVerifyError ⟨u, op⟩) s = .next t
          ∧ (∀ r p, e.subject = .plate r → findPlate s r = some p →
              findEntry t (.plate r) = none ∧ ∃ q, findPlate t r = some q ∧ q.state = .failed)
          ∧ ∀ n p, e.subject = .photo n → findPhoto s n = some p →
              findEntry t (.photo n) = none ∧ ∃ q, findPhoto t n = some q ∧ q.state = .failed)
      ∧ (7 ≤ (unitAt s u).failures → ∃ t, exec (.writeVerifyError ⟨u, op⟩) s = .next t ∧ (unitAt t u).state = .faulted
          ∧ (unitAt t u).op = none))
  ∧ ∀ (u : Nat) (e : Entry) (cause : Nat) (s : State), findEntry s e.subject = some e → cause = 2 ∨ cause = 3 →
    let f := (unitAt s u).failures
    let v : State :=
      if f < 7 then { s with units := s.units.modify u fun x =>
        { x with free := x.free + e.extents, failures := x.failures + 1, op := none } }
      else raise .unitFaulted (.unit u) [Wire.u8 1, .u8 (cause - 1)] { s with units := s.units.modify u fun x =>
        { x with state := .faulted, free := x.free + e.extents, failures := 8, op := none } }
    let reads : List Task :=
      if 7 ≤ f ∨ (unitAt s u).state = .faulted then (waitingOwners s u).map .failAtOnce else []
    let gone (t : State) : State :=
      { t with queue := s.queue.filter fun x => decide (x.subject ≠ e.subject), free := s.free + e.slabs.length }
    let notice : List Wire := [memberBits e.tried, .u8 (cause - 1)]
    (e.attempts < 3 → attemptFailed u e cause s = drain reads (setEntryContent e.subject .queued { v with
      queue := s.queue.map fun x => if x.subject = e.subject then { x with inFlight := none } else x }))
    ∧ (3 ≤ e.attempts →
      (∀ r x, e.subject = .plate r → findEdition s r.day r.index = some x →
        let t := raise .contentFailed (.plate r) notice (gone (setContent (.plate r) .failed v))
        attemptFailed u e cause s = drain reads (if x.isClosing then
            raise .closeFailed (.edition r.day r.index) [Wire.u8 1, .u8 r.page, .u8 r.plate] { t with
              editions := t.editions.map fun y =>
                if y.day = r.day ∧ y.index = r.index then { y with state := .opened } else y }
          else t))
      ∧ (∀ n, e.subject = .photo n → attemptFailed u e cause s =
          drain reads (raise .contentFailed (.photo n) notice (gone (setContent (.photo n) .failed v))))
      ∧ ∀ n, e.subject = .restored n → attemptFailed u e cause s =
          drain (.failJob n .commitFailed .restoreFailed :: reads) (gone v))

/-- A unit's OK to a read puts its bytes, as many as the copy's size (log 20), into the owner's slabs and judges them. If
the CRC agrees a ticket becomes READY with its timer started and TICKET-READY raised, a job's input is landed, an order item
becomes READY with ITEM-READY and the next of its order is active. A failed first try is sent again at once; a failed second
try raises the subject's read faults and FETCH-FAILED, counts a failure, and frees the ticket, fails the job or cancels the
item. A read that its unit cannot serve fails at once, a read without an owner only ends, and an answer to a try no longer
outstanding is discarded (R72, R73, R75, R88 to R92, R104, R120, R157, R158; log 13, 30). That FETCH-FAILED carries the copy
as the first field of its detail is the model's choice (log 14). -/
def Obligations.ReadAnswersLandOrRetry : Prop :=
  (∀ (u op : Nat) (s : State),
    (∀ r k n lim (b : List Byte), (unitAt s u).op = some ⟨op, .read r k true, n, lim⟩ →
      crc32 (b.take r.size) = r.check →
      let t : State := { s with
        staging := writeHolder (ownerSlabs s r.owner) 0 (b.take r.size) s.staging
        units := s.units.modify u fun x => { x with op := none, failures := 0 } }
      (∀ y, r.owner = .ticket y → exec (.readAnswer ⟨u, op⟩ (some b)) s = .next (drain [] (raise .ticketReady (.ticket y)
        (r.subject.wire ++ [Wire.u8 r.copy.code, .u32 r.size]) { t with
          tickets := s.tickets.map fun x => if x.number = y then
            { x with state := .ready (some s.timeBase), content := b.take r.size } else x })))
      ∧ (∀ y, r.owner = .job y → exec (.readAnswer ⟨u, op⟩ (some b)) s = .next (drain [] { t with
          jobs := s.jobs.map fun x => if x.number = y then { x with landed := true, input := b.take r.size } else x }))
      ∧ ∀ o i it, r.owner = .item o i → findItem s o i = some it →
        exec (.readAnswer ⟨u, op⟩ (some b)) s = .next (drain [.activate o] (raise .itemReady (.item o i)
          ([Wire.u8 it.product.code] ++ it.subject.wire ++ it.bound.wire ++ [Wire.u32 r.size])
          (leaveTurn o i (modifyItem o i
            (fun x => { x with state := .ready (some s.timeBase), content := b.take r.size }) t)))))
    ∧ (∀ r n lim (a : Option (List Byte)), (unitAt s u).op = some ⟨op, .read r 1 true, n, lim⟩ →
        (∀ b, a = some b → crc32 (b.take r.size) ≠ r.check) →
        exec (.readAnswer ⟨u, op⟩ a) s = .next { s with
          staging := match a with
            | some b => writeHolder (ownerSlabs s r.owner) 0 (b.take r.size) s.staging
            | none => s.staging
          units := s.units.modify u fun x =>
            { x with op := some ⟨s.opCount, .read r 2 true, s.timeBase, s.commitLimit⟩ }
          opCount := s.opCount + 1
          chainOut := s.chainOut ++ [.read u s.opCount r.start r.extents r.size] })
    ∧ (∀ r n lim (b : List Byte), (unitAt s u).op = some ⟨op, .read r 2 true, n, lim⟩ →
        exec (.readAnswer ⟨u, op⟩ none) s = .next (readFailed u r 2 s)
        ∧ (crc32 (b.take r.size) ≠ r.check → exec (.readAnswer ⟨u, op⟩ (some b)) s = .next (readFailed u r 1 { s with
            staging := writeHolder (ownerSlabs s r.owner) 0 (b.take r.size) s.staging })))
    ∧ (∀ r k n lim (a : Option (List Byte)), (unitAt s u).op = some ⟨op, .read r k false, n, lim⟩ →
        exec (.readAnswer ⟨u, op⟩ a) s = .next { s with units := s.units.modify u fun x =>
          { x with op := none, failures := if a.isSome then 0 else x.failures } })
    ∧ ∀ a, (∀ r k o n lim, (unitAt s u).op ≠ some ⟨op, .read r k o, n, lim⟩) → exec (.readAnswer ⟨u, op⟩ a) s = .next s)
  ∧ (∀ (u : Nat) (r : Read) (cause : Nat) (s : State), cause = 1 ∨ cause = 2 ∨ cause = 3 →
    let f := (unitAt s u).failures
    let c := if cause = 2 then 1 else if cause = 3 then 2 else if Config.mismatchCauseIsError s.freeCount then 1 else 2
    let h := raiseFaults r.subject s
    let v : State :=
      if f < 7 then { h with units := s.units.modify u fun x => { x with failures := x.failures + 1, op := none } }
      else raise .unitFaulted (.unit u) [Wire.u8 2, .u8 c] { h with
        units := s.units.modify u fun x => { x with state := .faulted, failures := 8, op := none }
        freeCount := s.freeCount + (if cause = 1 then 1 else 0) }
    let reads : List Task :=
      if 7 ≤ f ∨ (unitAt s u).state = .faulted then (waitingOwners s u).map .failAtOnce else []
    let w := raise .fetchFailed r.subject.notice ([Wire.u8 r.copy.code] ++ r.owner.wire ++ [Wire.u8 r.unit, .u8 cause]) v
    (∀ n x, r.owner = .ticket n → findTicket s n = some x →
      readFailed u r cause s = drain reads (freeTicket x w) ∧ findTicket (readFailed u r cause s) n = none)
    ∧ (∀ n, r.owner = .job n → readFailed u r cause s = drain (.failJob n .readFailed .restoreFailed :: reads) w)
    ∧ (∀ o i, r.owner = .item o i → readFailed u r cause s = drain (.cancel o i .fetchFailed :: reads) w)
    ∧ (unitAt (readFailed u r cause s) u).op = none
    ∧ (∀ p q, r.subject = .plate p → findPlate s p = some q →
        ∃ y, findPlate (readFailed u r cause s) p = some y ∧ y.readFaults = min 255 (q.readFaults + 1))
    ∧ ∀ p q, r.subject = .photo p → findPhoto s p = some q →
        ∃ y, findPhoto (readFailed u r cause s) p = some y ∧ y.readFaults = min 255 (q.readFaults + 1))
  ∧ ∀ (o : Owner) (s : State),
    ((∀ r ∈ s.reads, r.owner ≠ o) → perform (.failAtOnce o) s = (s, []))
    ∧ ∀ r, s.reads.find? (fun r => decide (r.owner = o)) = some r →
      let v := raise .fetchFailed r.subject.notice ([Wire.u8 r.copy.code] ++ r.owner.wire ++ [Wire.u8 r.unit, .u8 4])
        { s with reads := s.reads.filter fun r => decide (r.owner ≠ o) }
      (∀ n x, o = .ticket n → findTicket s n = some x → perform (.failAtOnce o) s = (freeTicket x v, []))
      ∧ (∀ n, o = .job n → perform (.failAtOnce o) s = (v, [.failJob n .readFailed .restoreFailed]))
      ∧ ∀ n i, o = .item n i → perform (.failAtOnce o) s = (v, [.cancel n i .fetchFailed])

/-- When an operation's limit expires the unit is sent the abort: a read's first try is sent again with a limit of
its own and under a number of its own (the model's choice, log 30), a second try fails the read and a write's attempt fails,
both with cause EXPIRED, and a read without an owner or a write without an entry only ends; what such a failure does is in the statements of the answers (R73, R84, R88, R90, R91). Before the limit, or with no
operation outstanding, nothing happens, and the expiry acts at the limit's tick or any later one (the model's choices, log
3 and 21). -/
def Obligations.OperationLimitsExpire : Prop :=
  (∀ (u : Nat) (s : State), (unitAt s u).op = none → exec (.operationLimitExpiry u) s = .next s)
  ∧ ∀ (u m : Nat) (s : State) (w : Work) (start : Tick) (limit : Nat),
    (unitAt s u).op = some ⟨m, w, start, limit⟩ →
    ((s.timeBase - start).toNat < 100 * limit → exec (.operationLimitExpiry u) s = .next s)
    ∧ (100 * limit ≤ (s.timeBase - start).toNat →
      (∀ r, w = .read r 1 true → exec (.operationLimitExpiry u) s = .next { s with
          units := s.units.modify u fun x =>
            { x with op := some ⟨s.opCount, .read r 2 true, s.timeBase, s.commitLimit⟩ }
          opCount := s.opCount + 1
          chainOut := s.chainOut ++ [.abort u, .read u s.opCount r.start r.extents r.size] })
      ∧ (∀ r, w = .read r 2 true → exec (.operationLimitExpiry u) s =
          .next (readFailed u r 3 { s with chainOut := s.chainOut ++ [.abort u] }))
      ∧ (∀ r k, w = .read r k false → exec (.operationLimitExpiry u) s = .next { s with
          units := s.units.modify u fun x => { x with op := none }
          chainOut := s.chainOut ++ [.abort u] })
      ∧ (∀ y, w = .write y → findEntry s y = none → exec (.operationLimitExpiry u) s = .next { s with
          units := s.units.modify u fun x => { x with op := none }
          chainOut := s.chainOut ++ [.abort u] })
      ∧ ∀ e, writeAt s u m = some e →
        exec (.operationLimitExpiry u) s = .next (attemptFailed u e 3 { s with chainOut := s.chainOut ++ [.abort u] })
        ∧ (e.attempts < 3 → (unitAt s u).failures < 7 → (unitAt s u).state ≠ .faulted →
          exec (.operationLimitExpiry u) s = .next (drain [] { setEntryContent e.subject .queued s with
            queue := s.queue.map fun x => if x.subject = e.subject then { x with inFlight := none } else x
            units := s.units.modify u fun x =>
              { x with free := x.free + e.extents, failures := x.failures + 1, op := none }
            chainOut := s.chainOut ++ [.abort u] })))

/-- UNIT-STATE sets a present unit ONLINE, READ-ONLY or OFFLINE, and one that leaves FAULTED has its failures set to
0; HOLD-CLASS and RELEASE-CLASS set and clear the hold on class 2 or 3 and report the held classes after; SET-COMMIT-LIMIT
takes 2, 4, 8 or 16 seconds and reports the limit before and after (R70, R79, R87). -/
def Obligations.UnitSettings : Prop :=
  (∀ (tag : Nat) (r : UnitStateReq) (s : State), Acts (.unitState ⟨tag, some r⟩) s →
     exec (.unitState ⟨tag, some r⟩) s =
       if 3 < r.position then endsRefused tag .outOfRange s
       else
         match settableState r.state with
         | none => endsRefused tag .malformed s
         | some st =>
           if (unitAt s r.position).state = .absent then endsRefused tag .noSuch s
           else endsDone tag [Wire.u8 (unitAt s r.position).state.code, .u8 st.code] { taken s with
             units := s.units.modify r.position fun x =>
               { x with state := st, failures := if x.state = .faulted then 0 else x.failures } })
  ∧ (∀ (tag c : Nat) (s : State),
     (Acts (.holdClass ⟨tag, some c⟩) s → exec (.holdClass ⟨tag, some c⟩) s =
       if c = 2 then endsDone tag [Wire.u8 (if s.held3 then 12 else 4)] { taken s with held2 := true }
       else if c = 3 then endsDone tag [Wire.u8 (if s.held2 then 12 else 8)] { taken s with held3 := true }
       else endsRefused tag .outOfRange s)
     ∧ (Acts (.releaseClass ⟨tag, some c⟩) s → exec (.releaseClass ⟨tag, some c⟩) s =
       if c = 2 then endsDone tag [Wire.u8 (if s.held3 then 8 else 0)] { taken s with held2 := false }
       else if c = 3 then endsDone tag [Wire.u8 (if s.held2 then 4 else 0)] { taken s with held3 := false }
       else endsRefused tag .outOfRange s))
  ∧ (∀ (tag n : Nat) (s : State), Acts (.setCommitLimit ⟨tag, some n⟩) s →
     exec (.setCommitLimit ⟨tag, some n⟩) s =
       if n = 2 ∨ n = 4 ∨ n = 8 ∨ n = 16 then
         endsDone tag [Wire.u8 s.commitLimit, .u8 n] { taken s with commitLimit := n }
       else endsRefused tag .outOfRange s)

/-! ### Desk fetches -/

/-- A plate reference that names a present key and page resolves when its number is 1 to the page's depth, or when it is
LATEST and some plate of the page is STORED; what it finds is the plate named, for LATEST the highest whose plate is STORED.
It fails as R19 lists: no such key or page, a number of 0, a number above the depth, or LATEST with no STORED plate (R8,
R19). FETCH is refused for a body or a reference that fails, then answered by the content's state; it begins the delivery of
a READY ticket, answers RETRY NOT-READY for one still PENDING or READING, RETRY TICKETS-FULL or NO-ROOM when there is no
place or no slabs above the deposit reserve, and else makes a PENDING ticket at the end of the table with its class 1 read.
Its number is the first, counting on from the next number and from 255 to 1, that no ticket has (R40, R93, R97 to R102, R104,
R105; the plate number in every reply is log 18, which slabs are granted log 12). -/
def Obligations.ReferencesResolveAndFetchServes : Prop :=
  (∀ (s : State) (r : PlateReq) (x : Resolved), resolve s r = .ok x →
     findEdition s r.day r.index = some x.edition ∧ x.edition.slot r.page = some x.slot
     ∧ x.slot.plate x.ref.plate = some x.plate ∧ findPlate s x.ref = some x.plate
     ∧ x.ref.day = r.day ∧ x.ref.index = r.index ∧ x.ref.page = r.page
     ∧ (r.plate ≠ latest → x.ref.plate = r.plate)
     ∧ (r.plate = latest → x.plate.state = .stored
         ∧ ∀ k p, x.ref.plate < k → x.slot.plate k = some p → p.state ≠ .stored))
  ∧ (∀ (s : State) (r : PlateReq),
     (findEdition s r.day r.index = none → resolve s r = .error .noSuch)
     ∧ ∀ e, findEdition s r.day r.index = some e →
       (e.slot r.page = none → resolve s r = .error .noSuch)
       ∧ ∀ p, e.slot r.page = some p →
         (r.plate = 0 → resolve s r = .error .outOfRange)
         ∧ (r.plate ≠ latest → p.plates.length < r.plate → resolve s r = .error .noSuch)
         ∧ (r.plate = latest → (∀ x ∈ p.plates, x.state ≠ .stored) → resolve s r = .error .noSuch)
         ∧ (r.plate ≠ latest → 1 ≤ r.plate → r.plate ≤ p.plates.length → ∃ x, resolve s r = .ok x)
         ∧ (r.plate = latest → (∃ x ∈ p.plates, x.state = .stored) → ∃ x, resolve s r = .ok x))
  ∧ (∀ (tag : Nat) (r : FetchReq) (s : State), Acts (.fetch ⟨tag, some r⟩) s →
     exec (.fetch ⟨tag, some r⟩) s =
       if r.subject = .neither ∨ (r.copy ≠ 1 ∧ r.copy ≠ 2) then endsRefused tag .malformed s
       else
         let c : Copy := if r.copy = 1 then .original else .restored
         match fetchTarget s r.subject c with
         | .error b => .next (replied tag b (taken s))
         | .ok x =>
           match s.tickets.find? fun t => decide (t.subject = x.subject) && decide (t.copy = c) with
           | some t =>
             (match t.state with
             | .ready _ => .next { taken s with
                 tickets := s.tickets.map fun y => if y.number = t.number then { y with state := .ready none } else y
                 outbound := .sending (.ticket t.number) (deliveryFrames tag t.content
                   ([Wire.u8 t.number] ++ t.subject.wire
                     ++ [Wire.u8 t.copy.code, .u32 t.source.size, .u32 t.source.check.toNat])) }
             | _ => endsRetry tag .notReady (.ticket t.number) x.fields s)
           | none =>
             if 8 ≤ s.tickets.length then endsRetry tag .ticketsFull .none x.fields s
             else if s.free < (x.source.size + 65535) / 65536 + 8192 then endsRetry tag .noRoom .none x.fields s
             else
               let n := freeNumber s.nextTicket (s.tickets.map (·.number))
               let k := (x.source.size + 65535) / 65536
               let u := x.source.loc.unit
               .next (replied tag (.retry .notReady (.ticket n) x.fields)
                 (drain (if (unitAt s u).state = .faulted ∨ (unitAt s u).state = .absent then
                     [.failAtOnce (.ticket n)] else [])
                   { taken s with
                     tickets := s.tickets ++ [⟨n, x.subject, c, .pending, x.source, grantedSlabs k s, []⟩]
                     nextTicket := n % 255 + 1
                     free := s.free - k
                     freeCount := s.freeCount + 1
                     reads := s.reads ++ [⟨.ticket n, x.subject, c, u, x.source.loc.start, k, x.source.size,
                       x.source.check⟩] })))
  ∧ (∀ (s : State) (c : Copy),
     (∀ r, r.plate ≠ latest → r.plate = 0 ∨ 8 < r.plate → fetchTarget s (.plate r) c = .error (.refused .outOfRange []))
     ∧ (∀ r e, resolve s r = .error e → r.plate = latest ∨ (1 ≤ r.plate ∧ r.plate ≤ 8) →
         fetchTarget s (.plate r) c = .error (.refused e []))
     ∧ (∀ r x, resolve s r = .ok x → r.plate = latest ∨ (1 ≤ r.plate ∧ r.plate ≤ 8) →
       fetchTarget s (.plate r) c =
         match x.plate.state with
         | .suppressed => .error (.refused .suppressed [Wire.u8 x.ref.plate])
         | .incomplete | .failed => .error (.refused .wrongState [Wire.u8 x.ref.plate])
         | .stored =>
           match copySource s (.plate x.ref) c with
           | some src => .ok ⟨.plate x.ref, src, [Wire.u8 x.ref.plate]⟩
           | none => .error (.refused .noSuch [Wire.u8 x.ref.plate])
         | _ => .error (.retry .commitPending .none [Wire.u8 x.ref.plate]))
     ∧ ∀ n, fetchTarget s (.photo n) c =
         match findPhoto s n with
         | none => .error (.refused .noSuch [])
         | some p =>
           if c = .restored then .error (.refused .noSuch [])
           else if p.barred then .error (.refused .barred [])
           else
             match p.state, p.location with
             | .stored, some l => .ok ⟨.photo n, ⟨l, p.size, p.check⟩, []⟩
             | .receiving, _ | .queued, _ | .committing, _ => .error (.retry .commitPending .none [])
             | _, _ => .error (.refused .wrongState []))
  ∧ (∀ (next : Nat) (used : List Nat), 1 ≤ next → next ≤ 255 → used.length < 255 →
     1 ≤ freeNumber next used ∧ freeNumber next used ≤ 255 ∧ freeNumber next used ∉ used
     ∧ ∃ k < 255, freeNumber next used = (next - 1 + k) % 255 + 1
         ∧ ∀ j < k, (next - 1 + j) % 255 + 1 ∈ used)

/-- When a ticket's DONE has been sent its frames are out and the ticket is gone with its slabs; when its 30 s
collect timer expires it is gone too, with TICKET-EXPIRED (R105, R106). The frames going out at the delivery's end is log 22;
the end of no delivery and an expiry not yet due change nothing, and an expiry acts at its tick or any later one (log 3 and
21). The frames of a delivery: their data put together is the content, each carries 4,096 bytes but the last, which carries 1
to 4,096, at ascending multiples of 4,096, under the request's tag, and DONE comes last (R105, R160). -/
def Obligations.TicketsEndByDeliveryOrExpiry : Prop :=
  (∀ s : State,
    (∀ n frames t, s.outbound = .sending (.ticket n) frames → findTicket s n = some t →
      exec .ticketDeliveryEnd s = .next (drain [] (freeTicket t
        { s with linkOut := s.linkOut ++ frames, outbound := .idle })))
    ∧ ((∀ n frames, s.outbound ≠ .sending (.ticket n) frames) → exec .ticketDeliveryEnd s = .next s)
    ∧ ∀ n t start, findTicket s n = some t → t.state = .ready (some start) →
      exec (.ticketCollectExpiry n) s =
        if (s.timeBase - start).toNat < 3000 then .next s
        else .next (drain [] (raise .ticketExpired (.ticket n) (t.subject.wire ++ [Wire.u8 t.copy.code]) (freeTicket t s))))
  ∧ ∀ (tag : Nat) (b : List Byte) (fields : List Wire),
    ∃ chunks : List (List Byte),
      deliveryFrames tag b fields
        = (chunks.mapIdx fun k x => OutFrame.dataOut tag (4096 * k) x) ++ [.reply tag (.done fields)]
      ∧ chunks.flatten = b ∧ chunks.length = (b.length + 4095) / 4096
      ∧ (∀ x ∈ chunks, 1 ≤ x.length ∧ x.length ≤ 4096)
      ∧ ∀ x ∈ chunks.dropLast, x.length = 4096

/-- After every step nothing waits that could go on: a step carries out every stage that has come due, so it leaves no landed
job while the Repair Engine is free, no REPAIRED job while a commit-queue place is free, no stored copy whose plate's copy
hold count is 0, no member of the restore-wait list that would find its copy, a job to join or a record to create one in, no
first WAITING job with no job FETCHING, and no first member of the slab-wait list, for which the free slabs would do (R95,
R119, R121, R122, R124, R154, R156). That all this is done inside the step is log 9, and its bound log 25. -/
def Obligations.SettledStays : Prop :=
  ∀ s t : State, TablesWf s → WorkWf s → Settled s → step s = .next t → Settled t

/-! ### Restoration -/

/-- RESTORE joins the job of the same profile on the plate, answers ALREADY when the copy is there, or creates a
WAITING job for the host; the checks before stand in R116's order (JOINED's state is log 32). CANCEL-JOB ends a job that is
not COMMITTING: its record leaves, its slabs return, its read ends, the engine it held is free, JOB-FAILED is raised and then
(log 19) its items are cancelled in join order; from a state in which the work in hand is consistent none of them is left but
as CANCELLED. The stages of a job: the first WAITING job in queue order enters FETCHING when no other is and the pool has
its slabs (which of them is free: log 12); a landed one REPAIRING when the engine is free; a REPAIRED one COMMITTING when a
place is free; a stored copy nothing binds is installed, with JOB-DONE, and the job's items go on to fetch it; a job that fails is ended as a cancelled
one is (R115 to R117, R119 to R126). -/
def Obligations.RestoreAndCancelJob : Prop :=
  (∀ (tag : Nat) (r : RestoreReq) (s : State), Acts (.restore ⟨tag, some r⟩) s →
    exec (.restore ⟨tag, some r⟩) s =
      match resolve s r.plate with
      | .error x => endsRefused tag x s
      | .ok x =>
        if 7 < r.profile then endsRefused tag .outOfRange s
        else if r.priority ≠ 1 ∧ r.priority ≠ 3 then endsRefused tag .malformed s
        else if x.edition.source = .press then endsRefused tag .wrongSource s
        else if x.plate.state = .suppressed then endsRefused tag .suppressed s
        else if x.plate.state ≠ .stored then endsRefused tag .wrongState s
        else
          match jobOn s x.ref with
          | some j =>
            if j.profile ≠ r.profile then endsRefused tag .plateBusy s
            else endsDone tag [Wire.u8 1, .u8 j.number, .u8 j.state.code] (drain [] { taken s with
              jobs := s.jobs.map fun y => if y.number = j.number then { y with
                hostInterest := true
                priority :=
                  if r.priority = 1 then .desk else y.priority } else y })
          | none =>
            if ∃ c, x.plate.restored = some c ∧ c.profile = r.profile then
              endsDone tag ([Wire.u8 2] ++ (match x.plate.restored with
                | some c => [Wire.u8 c.profile, .u16 c.repaired, .u16 c.flat]
                | none => [])) (taken s)
            else if boundAgainst s x.ref r.profile [] then endsRefused tag .plateBusy s
            else if 16 ≤ s.jobs.length then endsRefused tag .tableFull s
            else
              let n := freeNumber s.nextJob (s.jobs.map (·.number))
              endsDone tag [Wire.u8 3, .u8 n] (drain [] { taken s with
                jobs := s.jobs ++ [⟨n, x.ref, r.profile, if r.priority = 1 then .desk else .routine, .waiting, none,
                  true, [], false, none, 0, 0, 0, 0, 0, [], [], [], [], none, none⟩]
                nextJob := n % 255 + 1 }))
  ∧ (∀ (tag n : Nat) (s : State), Acts (.cancelJob ⟨tag, some n⟩) s →
    exec (.cancelJob ⟨tag, some n⟩) s =
      if n = 0 ∨ 255 < n then endsRefused tag .outOfRange s
      else
        match findJob s n with
        | none => endsRefused tag .noSuch s
        | some j =>
          if j.state = .committing then endsRefused tag .tooLate s
          else endsDone tag [Wire.u8 j.state.code, .u16 j.waiting.length]
            (drain (j.waiting.map fun x => .cancel x.1 x.2 .jobCancelled)
              (raise .jobFailed (.job n)
                (Subject.wire (.plate j.plate) ++ [Wire.u8 j.profile, .u8 3, .u16 j.waiting.length])
                (detachItems j.waiting (endJob j (taken s))))))
  ∧ (∀ (tag n : Nat) (j : Job) (s : State), Acts (.cancelJob ⟨tag, some n⟩) s → TablesWf s → WorkWf s → 1 ≤ n → n ≤ 255 →
    findJob s n = some j → j.state ≠ .committing →
    ∃ t, exec (.cancelJob ⟨tag, some n⟩) s = endsDone tag [Wire.u8 j.state.code, .u16 j.waiting.length] t
      ∧ ∀ x ∈ j.waiting, ∀ it, findItem t x.1 x.2 = some it → it.state = .cancelled .jobCancelled ∧ it.slabs = [])
  ∧ (∀ (j : Job) (s : State),
    endJob j s = { s with
      free := s.free + (j.inputSlabs.length + j.outputSlabs.length)
      reads := s.reads.filter fun r => decide (r.owner ≠ .job j.number)
      units := s.units.map (UnitRec.orphan (.job j.number))
      jobs := s.jobs.filter fun x => decide (x.number ≠ j.number)
      engine := if s.engine.any (fun w => decide (w.job = j.number)) then none else s.engine }
    ∧ ∀ (l : List (Nat × Nat)) (o i : Nat) (it : ItemRec), (∀ x ∈ l, 1 ≤ x.2) → findItem s o i = some it →
      findItem (detachItems l s) o i = some (if (o, i) ∈ l then { it with state := .waitRestore none } else it))
  ∧ (∀ s : State,
    ((∃ j ∈ s.jobs, j.state = .fetching) → perform .examineWaiting s = (s, []))
    ∧ ((∀ j ∈ s.jobs, j.state ≠ .waiting) → perform .examineWaiting s = (s, []))
    ∧ ∀ j src, (∀ j ∈ s.jobs, j.state ≠ .fetching) →
      (queueOrder s).find? (fun j => decide (j.state = .waiting)) = some j →
      copySource s (.plate j.plate) .original = some src →
      let k := (src.size + 65535) / 65536
      perform .examineWaiting s =
        if s.free < 2 * k + 8192 then (s, [])
        else ({ s with
            free := s.free - 2 * k
            freeCount := s.freeCount + 1
            jobs := s.jobs.map fun y => if y.number = j.number then { y with
              state := .fetching, landed := false
              inputSlabs := (grantedSlabs (2 * k) s).take k, outputSlabs := (grantedSlabs (2 * k) s).drop k } else y
            reads := s.reads ++ [⟨.job j.number, .plate j.plate, .original, src.loc.unit, src.loc.start, k, src.size,
              src.check⟩] },
          if (unitAt s src.loc.unit).state = .faulted ∨ (unitAt s src.loc.unit).state = .absent then
            [.failAtOnce (.job j.number)] else []))
  ∧ ∀ (n : Nat) (j : Job) (s : State), findJob s n = some j →
    (j.state = .fetching → j.landed = true →
      perform (.startRepair n) s = if s.engine.isSome then (s, []) else ({ s with
        engine := some ⟨n, 0⟩
        jobs := s.jobs.map fun y => if y.number = n then { y with
          state := .repairing, landed := false, profileCopy := s.profiles[y.profile]?, entered := s.timeBase
          tilesDone := 0, repaired := 0, flat := 0, specks := 0, output := [] } else y }, []))
    ∧ (j.state = .repaired → perform (.claimPlace n) s = if freePlaces s = 0 then (s, []) else ({ s with
        queue := s.queue
          ++ [⟨.restored n, j.outputSlabs.length, crc32 j.output, j.output, j.outputSlabs, 0, [], none⟩]
        jobs := s.jobs.map fun y => if y.number = n then { y with
          state := .committing, outputCheck := some (crc32 j.output), outputSlabs := [], output := [] } else y }, []))
    ∧ (∀ l p, j.state = .committing → j.stored = some l → findPlate s j.plate = some p →
      perform (.install n) s =
        if copyHold s j.plate ≠ 0 then (s, [])
        else
          let u := match p.restored with
            | some c => returnExtents c.loc ((c.size + 65535) / 65536) s
            | none => s
          let c : RestoredCopy := ⟨l, p.size, j.profile, j.repaired, j.flat, j.specks, j.outputCheck.getD 0⟩
          (raise .jobDone (.job n) (Subject.wire (.plate j.plate) ++ [Wire.u8 j.profile, .u16 p.tileCount,
              .u16 j.repaired, .u16 j.flat, .u32 j.specks, .u8 l.unit])
            (detachItems j.waiting (endJob j (modifyPlate j.plate (fun y => { y with restored := some c }) u))),
          j.waiting.map fun x => .goFetch x.1 x.2))
    ∧ ∀ why reason, j.stored = none → findEntry s (.restored n) = none → perform (.failJob n why reason) s =
      (raise .jobFailed (.job n) (Subject.wire (.plate j.plate) ++ [Wire.u8 j.profile, .u8 why.code, .u16 j.waiting.length])
        (detachItems j.waiting (endJob j s)), j.waiting.map fun x => .cancel x.1 x.2 reason)

/-- SET-PROFILE writes a profile's four numeric fields, an S_min of 0 as 1, and leaves its tone table; TONE-TABLE
writes all 256 entries, leaves the numeric fields, and reports their CRC-32 (R111, R112). -/
def Obligations.ProfileRequestsWriteTheStore : Prop :=
  ∀ (tag : Nat) (s : State),
    (∀ r, Acts (.setProfile ⟨tag, some r⟩) s → exec (.setProfile ⟨tag, some r⟩) s =
      if 7 < r.profile ∨ 49 < r.pLo ∨ r.pHi < 51 ∨ 100 < r.pHi then endsRefused tag .outOfRange s
      else
        let m := if r.sMin = 0 then 1 else r.sMin
        endsDone tag [Wire.u8 r.profile, .u8 r.pLo, .u8 r.pHi, .u8 m, .u8 r.threshold] { taken s with
          profiles := s.profiles.modify r.profile fun p => ⟨r.pLo, r.pHi, m, r.threshold, p.tone⟩ })
    ∧ ∀ r, Acts (.toneTable ⟨tag, some r⟩) s → exec (.toneTable ⟨tag, some r⟩) s =
      if 7 < r.profile then endsRefused tag .outOfRange s
      else if r.entries.length ≠ 256 then endsRefused tag .malformed s
      else endsDone tag [Wire.u8 r.profile, .u32 (crc32 r.entries).toNat] { taken s with
        profiles := s.profiles.modify r.profile fun p => { p with tone := r.entries.map (·.toNat) } }

/-- A written tile raises its job's counts and extends its output, its bytes standing in the job's output slabs; below the
last tile the cursor moves on, and at the last REPAIRING ends: the input slabs return and the engine is free. With the
engine FREE no tile is written (R92, R122, R140, R141; the last is the model's choice, log 3, and so is that a
tile's bytes reach the slabs when it is written and none before, log 12). -/
def Obligations.WrittenTilesCount : Prop :=
  ∀ s : State,
    (s.engine = none → exec .tileWritten s = .next s)
    ∧ ∀ w j, s.engine = some w → findJob s w.job = some j →
      let x := computeTile (j.profileCopy.getD factoryProfile) ((j.input.drop (w.cursor * 4096)).take 4096)
      let m := writeHolder j.outputSlabs (w.cursor * 4096) x.out s.staging
      (w.cursor + 1 < jobTiles s j → exec .tileWritten s = .next { s with
        staging := m
        engine := some ⟨w.job, w.cursor + 1⟩
        jobs := s.jobs.map fun y => if y.number = w.job then { y with
          tilesDone := y.tilesDone + 1
          flat := y.flat + (if x.kind = .flat then 1 else 0)
          repaired := y.repaired + (if x.kind = .repaired then 1 else 0)
          specks := y.specks + (if x.kind = .repaired then x.specks else 0)
          output := y.output ++ x.out } else y })
      ∧ (jobTiles s j ≤ w.cursor + 1 → exec .tileWritten s = .next (drain [] { s with
        staging := m
        engine := none
        free := s.free + j.inputSlabs.length
        jobs := s.jobs.map fun y => if y.number = w.job then { y with
          state := .repaired, inputSlabs := [], input := []
          tilesDone := y.tilesDone + 1
          flat := y.flat + (if x.kind = .flat then 1 else 0)
          repaired := y.repaired + (if x.kind = .repaired then 1 else 0)
          specks := y.specks + (if x.kind = .repaired then x.specks else 0)
          output := y.output ++ x.out } else y }))

/-- The tile computation: a flat tile, and a clean one, is its input through the tone table; every other tile not flat is
repaired; the output has 4,096 bytes. The points are the smallest grey values whose cumulative counts reach the percentile
counts. Between them a pixel x is stretched to (x − B) × 255 / D rounded to the nearest, a half up; the stretch stays within 0
to 255, never decreases and is the identity between 0 and 255. A pixel's neighbours are those directly above, below, left
and right within the tile; it is a speck when every neighbour exceeds it by more than T, or it exceeds every neighbour by
more than T, and is then replaced by the median of its neighbours, all judged on the stretched values; with a threshold of
255 there is no speck (R131 to R140). -/
def Obligations.TilesAreComputedByTheRules : Prop :=
  (∀ (p : Profile) (input : List Byte), input.length = 4096 →
     let px := input.map (·.toNat)
     let b := greyPoint px (percentileCount p.pLo)
     let w := greyPoint px (percentileCount p.pHi)
     let a := (px.map (stretch b w)).toArray
     let x := computeTile p input
     (w - b < p.sMin → x = ⟨px.map (toneByte p), .flat, 0⟩)
     ∧ (p.sMin ≤ w - b → (x.kind = .clean ↔ b = 0 ∧ w = 255 ∧ x.specks = 0)
         ∧ (x.kind = .repaired ↔ b ≠ 0 ∨ w ≠ 255 ∨ 1 ≤ x.specks)
         ∧ x.specks = ((List.range 4096).filter fun k => (despeckled p.threshold a (k / 64) (k % 64)).2).length
         ∧ ∀ k < 4096, x.out[k]? = some (toneByte p (despeckled p.threshold a (k / 64) (k % 64)).1))
     ∧ (x.kind = .clean → x.out = px.map (toneByte p))
     ∧ x.out.length = 4096 ∧ x.specks ≤ 4096 ∧ (255 ≤ p.threshold → x.specks = 0)
     ∧ (∀ v, stretch b w v ≤ 255) ∧ (∀ u v, u ≤ v → stretch b w u ≤ stretch b w v)
     ∧ (∀ v, v ≤ 255 → stretch 0 255 v = v)
     ∧ ∀ near : List Nat, 2 ≤ near.length → near.length ≤ 4 →
         (∃ u ∈ near, u ≤ median near) ∧ ∃ v ∈ near, median near ≤ v)
  ∧ (∀ (px : List Nat) (lo hi : Nat), px.length = 4096 → (∀ x ∈ px, x ≤ 255) → lo ≤ 49 → 51 ≤ hi → hi ≤ 100 →
     let b := greyPoint px (percentileCount lo)
     let w := greyPoint px (percentileCount hi)
     1 ≤ percentileCount lo ∧ percentileCount lo < percentileCount hi ∧ percentileCount hi ≤ 4096
     ∧ percentileCount lo ≤ cumulative px b ∧ (∀ v, v < b → cumulative px v < percentileCount lo)
     ∧ percentileCount hi ≤ cumulative px w ∧ (∀ v, v < w → cumulative px v < percentileCount hi)
     ∧ b ≤ w ∧ w ≤ 255)
  ∧ (∀ b w v : Nat,
     (v ≤ b → stretch b w v = 0) ∧ (b < v → w ≤ v → stretch b w v = 255)
     ∧ (b < v → v < w → stretch b w v = ((v - b) * 510 + (w - b)) / (2 * (w - b))
         ∧ 510 * (v - b) < 2 * (w - b) * stretch b w v + (w - b)
         ∧ 2 * (w - b) * stretch b w v ≤ 510 * (v - b) + (w - b)))
  ∧ (∀ r c : Nat, r < 64 → c < 64 →
     (neighbours r c).Nodup
     ∧ ∀ y z, (y, z) ∈ neighbours r c ↔ y < 64 ∧ z < 64
         ∧ ((z = c ∧ (y + 1 = r ∨ y = r + 1)) ∨ (y = r ∧ (z + 1 = c ∨ z = c + 1))))
  ∧ (∀ (t : Nat) (a : Array Nat) (r c : Nat),
     let near := (neighbours r c).map fun p => pixelAt a p.1 p.2
     let x := pixelAt a r c
     ((∀ v ∈ near, x + t < v) ∨ (∀ v ∈ near, v + t < x) → despeckled t a r c = (median near, true))
     ∧ ((∃ v ∈ near, v ≤ x + t) → (∃ v ∈ near, x ≤ v + t) → despeckled t a r c = (x, false)))
  ∧ ∀ (l : List Nat) (a b c d : Nat), a ≤ b → b ≤ c → c ≤ d →
     (l.Perm [a, b, c, d] → median l = (b + c) / 2) ∧ (l.Perm [a, b, c] → median l = b)
     ∧ (l.Perm [a, b] → median l = (a + b) / 2)

/-! ### Orders -/

/-- PLACE-ORDER accepts an order whose items pass and whose reservation the account's available funds cover: the order
joins the book with its number, reservation, discount and turn list, the account's reserved rises, and its first item
becomes active; else it is refused by the first check that fails (R147, R151, R175). The items are examined in list order,
each with the earlier ones of its order before it; the first that fails gives its number and reason. A photo item passes as
R41 gives, a plate item as R148 and R149 give, bound as R150 gives; the snapshot is taken from the product's prices, the
subject's day and the photo's rights (R169, R170). The reply's item list with its own count and a plate number without a
presence byte, in plate items only, is log 14; that a profile given with NONE or AUTO is not looked at is log 36; that every
failed reference is NO-SUCH is log 17. -/
def Obligations.PlaceOrderReservesAndStarts : Prop :=
  (∀ (tag : Nat) (r : PlaceOrderReq) (s : State), Acts (.placeOrder ⟨tag, some r⟩) s →
     exec (.placeOrder ⟨tag, some r⟩) s =
       if s.date = none then endsRefused tag .dateUnset s
       else if r.items = [] ∨ 8 < r.items.length then endsRefused tag .malformed s
       else if 255 < r.account then endsRefused tag .outOfRange s
       else
         match findAccount s r.account with
         | none => endsRefused tag .noSuch s
         | some a =>
           if a.suspended then endsRefused tag .accountSuspended s
           else if 32 ≤ s.orders.length then endsRefused tag .tableFull s
           else
             match examineItems s [] r.items with
             | .error b => .next (replied tag b (taken s))
             | .ok items =>
               let sum := reservationOf items a.tier
               if a.balance + a.limit - a.reserved < (sum : Int) then
                 .next (replied tag (.refused .funds [Wire.u32 sum, .s32 (a.balance + a.limit - a.reserved)]) (taken s))
               else
                 let n := freeNumber s.nextOrder (s.orders.map (·.number))
                 endsDone tag ([Wire.u8 n, .u32 sum, .u16 items.length] ++ items.flatMap fun x =>
                     (match x.subject with
                       | .plate y => [Wire.u8 y.plate]
                       | .photo _ => [])
                     ++ (match x.bound with
                       | .original => [Wire.u8 1, .u8 0]
                       | .restored p => [Wire.u8 2, .u8 p])
                     ++ [Wire.u8 (if x.toBeMade then 1 else 0)])
                   (drain [.activate n] { taken s with
                     accounts := s.accounts.map fun y =>
                       if y.number = r.account then { y with reserved := y.reserved + sum } else y
                     orders := s.orders ++ [⟨n, r.account, sum, a.tier, items,
                       (List.range items.length).map (· + 1), s.timeBase⟩]
                     nextOrder := n % 255 + 1 }))
  ∧ (∀ (s : State) (reqs : List ItemReq),
     let before (l : List ItemRec) := l.map fun x => (x.subject, x.bound)
     (∀ items, examineItems s [] reqs = .ok items ↔ items.length = reqs.length
       ∧ ∀ k i x, reqs[k]? = some i → items[k]? = some x → examineItem s (before (items.take k)) i = .ok x)
     ∧ ∀ k i items e, reqs[k]? = some i → examineItems s [] (reqs.take k) = .ok items →
         examineItem s (before items) i = .error e → examineItems s [] reqs = .error (.refused e [Wire.u8 (k + 1)]))
  ∧ (∀ (s : State) (earlier : List (Subject × Bound)) (i : ItemReq),
     (i.product = 0 ∨ 4 < i.product ∨ i.subject = .neither → examineItem s earlier i = .error .malformed)
     ∧ ∀ p : Product, i.product = p.code →
       (∀ n, i.subject = .photo n → examineItem s earlier i = photoItem s p n i.choice)
       ∧ ∀ r, i.subject = .plate r → examineItem s earlier i = plateItem s earlier p r i.choice i.profile)
  ∧ (∀ (s : State) (p : Product) (n choice : Nat),
     photoItem s p n choice =
       if p = .pagePrint ∨ p = .pageFile then .error .malformed
       else
         match findPhoto s n with
         | none => .error .noSuch
         | some x =>
           if choice ≠ 1 then .error .wrongSource
           else if x.barred then .error .barred
           else if x.state ≠ .stored then .error .wrongState
           else if ∃ e, x.embargo = some e ∧ today s + 30 < e then .error .embargoed
           else .ok ⟨p, .photo n, .none, .original, false,
             ⟨(s.tariff.line p).base, min 100 ((today s - x.photoDay) / 365), (s.tariff.line p).ageRate,
               (s.tariff.line p).tileRate, (s.tariff.line p).cap, x.fee, x.holder, x.share⟩,
             false, false, .pending, [], none, none, []⟩)
  ∧ (∀ (s : State) (earlier : List (Subject × Bound)) (p : Product) (r : PlateReq) (choice profile : Nat),
     plateItem s earlier p r choice profile =
       if p = .photoPrint ∨ p = .photoFile then .error .malformed
       else if choice = 0 ∨ 3 < choice then .error .malformed
       else if choice = 3 ∧ 7 < profile then .error .outOfRange
       else
         match resolve s r with
         | .error _ => .error .noSuch
         | .ok x =>
           if x.edition.source = .press ∧ choice ≠ 1 then .error .wrongSource
           else if x.plate.state = .suppressed then .error .suppressed
           else if x.plate.state ≠ .stored then .error .wrongState
           else
             let c : Choice := if choice = 1 then .none else if choice = 2 then .auto else .profile profile
             let item (b : Bound) (made : Bool) : ItemRec := ⟨p, .plate x.ref, c, b, made,
               ⟨(s.tariff.line p).base, min 100 ((today s - x.edition.day) / 365), (s.tariff.line p).ageRate,
                 (s.tariff.line p).tileRate, (s.tariff.line p).cap, 0, 0, 0⟩,
               false, false, .pending, [], none, none, []⟩
             if choice = 1 ∨ (choice = 2 ∧ x.edition.grade < 2) then .ok (item .original false)
             else
               let q := if choice = 2 then x.edition.profile else profile
               if (∃ j, jobOn s x.ref = some j ∧ j.profile ≠ q) ∨ boundAgainst s x.ref q earlier = true then
                 .error .plateBusy
               else .ok (item (.restored q) (decide (x.plate.restored.map (·.profile) ≠ some q))))
  ∧ ∀ (s : State) (r : PlateRef) (q : Nat) (earlier : List (Subject × Bound)),
     boundAgainst s r q earlier = true ↔
       (∃ t ∈ s.tickets, t.subject = .plate r ∧ t.copy = .restored ∧ presentProfile s r ≠ some q)
       ∨ (∃ i ∈ openItems s, i.live = true ∧ i.subject = .plate r ∧ ∃ k, i.bound = .restored k ∧ k ≠ q)
       ∨ ∃ x ∈ earlier, x.1 = .plate r ∧ ∃ k, x.2 = .restored k ∧ k ≠ q

/-- COLLECT of a READY item begins its delivery with the timer stopped; an item not yet READY draws RETRY NOT-READY;
one COLLECTED or CANCELLED is refused. When the DONE has been sent the item is COLLECTED, its slabs back, and an order
then done settles (its frames going out at that moment is log 22). A READY item whose 300 s run out is CANCELLED as EXPIRED:
its slabs return, ITEM-CANCELLED is raised, and an order then done settles (R160 to R162, R164). The end of no delivery and
an expiry not yet due change nothing, and an expiry acts at its tick or any later one (log 3 and 21). -/
def Obligations.CollectDeliversReadyItems : Prop :=
  (∀ (tag : Nat) (r : CollectReq) (s : State), Acts (.collect ⟨tag, some r⟩) s →
    exec (.collect ⟨tag, some r⟩) s =
      if r.order = 0 ∨ 255 < r.order ∨ r.item = 0 ∨ 8 < r.item then endsRefused tag .outOfRange s
      else
        match findItem s r.order r.item with
        | none => endsRefused tag .noSuch s
        | some x =>
          match x.state with
          | .ready _ => .next { setItemState r.order r.item (.ready none) (taken s) with
              outbound := .sending (.item r.order r.item) (deliveryFrames tag x.content
                ([Wire.u8 r.order, .u8 r.item, .u8 x.product.code] ++ x.subject.wire ++ x.bound.wire
                  ++ [Wire.u32 ((x.source.map (·.size)).getD 0), .u32 ((x.source.map CopySource.check).getD 0).toNat])) }
          | .collected => .next (replied tag (.refused .wrongState [Wire.u8 6]) (taken s))
          | .cancelled c => .next (replied tag (.refused .wrongState [Wire.u8 7, .u8 c.code]) (taken s))
          | st => endsRetry tag .notReady (.order r.order) [Wire.u8 st.code] s)
  ∧ ∀ s : State,
    (∀ o i frames x, s.outbound = .sending (.item o i) frames → findItem s o i = some x →
      exec .itemDeliveryEnd s = .next (drain [] (settleIfDone o
        (modifyItem o i (fun y => { y with state := .collected, slabs := [], content := [] })
          { s with linkOut := s.linkOut ++ frames, outbound := .idle, free := s.free + x.slabs.length }))))
    ∧ ((∀ o i frames, s.outbound ≠ .sending (.item o i) frames) → exec .itemDeliveryEnd s = .next s)
    ∧ ∀ o i x start, findItem s o i = some x → x.state = .ready (some start) →
      exec (.itemCollectExpiry o i) s =
        if (s.timeBase - start).toNat < 30000 then .next s
        else .next (drain (if (findOrder s o).any (fun y => decide (y.turn.head? = some i)) then [.activate o] else [])
          (settleIfDone o (raise .itemCancelled (.item o i) [Wire.u8 2]
            (modifyItem o i (fun y => { y with state := .cancelled .expired, slabs := [], content := [] })
              (leaveTurn o i { s with free := s.free + x.slabs.length })))))

/-- CANCEL-ORDER cancels, in list order and one after another (log 10), every item of the order that is not done, and
answers with how many it cancelled, the number of items collected before and the charge for them. From a state in which the
work in hand is consistent the order has left the book, settled, and unless the read of an item is at a unit that cannot be
read every such item is counted and the account has the charge and the reservation's release. The stages of an item: a
cancelled item gives up what it holds by its state, is CANCELLED with its reason, raises ITEM-CANCELLED unless the order was
cancelled, and settles an order that is then done; the next of its order becomes active; an active item under embargo waits,
one whose copy is to be made joins a job, creates one or waits for one, and any other waits for its slabs and fetches (which
slabs it gets is free: log 12; that one that meets a job of another profile on its plate waits like one turned away is the
model's choice, log 26) (R152 to R157, R162 to R164, R174). -/
def Obligations.CancelOrderGivesUpTheItems : Prop :=
  (∀ (tag n : Nat) (s : State), Acts (.cancelOrder ⟨tag, some n⟩) s →
    exec (.cancelOrder ⟨tag, some n⟩) s =
      if n = 0 ∨ 255 < n then endsRefused tag .outOfRange s
      else
        match findOrder s n with
        | none => endsRefused tag .noSuch s
        | some x =>
          let w := drainTally ((liveItems x).map fun i => .cancel n i .orderCancelled) (taken s)
          endsDone tag [Wire.u16 w.cancelled, .u16 (x.items.countP fun i => decide (i.state = .collected)),
            .u32 (chargeOf x.items x.discount)] w.state)
  ∧ (∀ (tag n : Nat) (x : OrderRec) (s : State), Acts (.cancelOrder ⟨tag, some n⟩) s → TablesWf s → WorkWf s →
    1 ≤ n → n ≤ 255 → findOrder s n = some x → (∃ it ∈ x.items, it.live = true) →
    ∃ k t, exec (.cancelOrder ⟨tag, some n⟩) s = endsDone tag [Wire.u16 k,
        .u16 (x.items.countP fun i => decide (i.state = .collected)), .u32 (chargeOf x.items x.discount)] t
      ∧ findOrder t n = none ∧ k ≤ (x.items.filter ItemRec.live).length
      ∧ (AllReadable s → k = (x.items.filter ItemRec.live).length
          ∧ t.accounts = s.accounts.map fun a => if a.number = x.account then
              { a with balance := a.balance - chargeOf x.items x.discount, reserved := a.reserved - x.reservation } else a))
  ∧ (∀ (o i : Nat) (reason : CancelReason) (s : State),
    ((∀ it, findItem s o i = some it → it.live = false) → perform (.cancel o i reason) s = (s, []))
    ∧ ∀ it, findItem s o i = some it → it.live = true →
      let u : State := match it.state with
        | .pending => { s with slabWait := s.slabWait.filter fun x => decide (x ≠ (o, i)) }
        | .waitRestore none => { s with restoreWait := s.restoreWait.filter fun x => decide (x ≠ (o, i)) }
        | .waitRestore (some n) => leaveJob o i n s
        | .fetching => { s with
            free := s.free + it.slabs.length
            reads := s.reads.filter fun r => decide (r.owner ≠ .item o i)
            units := s.units.map (UnitRec.orphan (.item o i)) }
        | .ready _ => { s with free := s.free + it.slabs.length }
        | _ => s
      let v := modifyItem o i (fun y => { y with state := .cancelled reason, slabs := [], content := [] })
        (modifyOrder o (fun y => { y with turn := y.turn.filter fun k => decide (k ≠ i) }) u)
      perform (.cancel o i reason) s =
        (settleIfDone o (if reason = .orderCancelled then v
          else raise .itemCancelled (.item o i) [Wire.u8 reason.code] v),
        if (findOrder s o).any (fun y => decide (y.turn.head? = some i)) then [.activate o] else []))
  ∧ (∀ (o i n : Nat) (j : Job) (s : State), findJob s n = some j →
    let l := j.waiting.filter fun x => decide (x ≠ (o, i))
    leaveJob o i n s =
      if l = [] ∧ j.hostInterest = false ∧ j.state ≠ .committing then
        raise .jobFailed (.job n) (Subject.wire (.plate j.plate) ++ [Wire.u8 j.profile, .u8 5, .u16 0]) (endJob j s)
      else { s with jobs := s.jobs.map fun y => if y.number = n then
        { y with waiting := y.waiting.filter fun x => decide (x ≠ (o, i)) } else y })
  ∧ (∀ (o : Nat) (x : OrderRec) (s : State), findOrder s o = some x →
    settleIfDone o s = if ∀ it ∈ x.items, it.live = false then settleOrder x s else s)
  ∧ (∀ (o i : Nat) (x : OrderRec) (it : ItemRec) (s : State), findOrder s o = some x → x.turn.head? = some i →
    x.item i = some it → it.state = .pending → (o, i) ∉ s.slabWait →
    (∀ r, it.subject = .plate r → perform (.activate o) s = (modifyItem o i (fun y => match y.subject with
        | .plate _ => y
        | .photo _ => { y with embargoPassed := true }) s, [.workItem o i]))
    ∧ ∀ n, it.subject = .photo n → perform (.activate o) s =
        if it.embargoPassed = false ∧ ∃ p, findPhoto s n = some p ∧ ∃ e, p.embargo = some e ∧ today s < e then
          (leaveTurn o i (setItemState o i .waitEmbargo s), [.activate o])
        else (modifyItem o i (fun y => match y.subject with
          | .plate _ => y
          | .photo _ => { y with embargoPassed := true }) s, [.workItem o i]))
  ∧ (∀ (o i : Nat) (it : ItemRec) (s : State), readyToWork s o i = true → findItem s o i = some it →
    ((∀ r p, it.subject = .plate r → it.bound = .restored p → presentProfile s r = some p) →
      perform (.workItem o i) s = (s, [.goFetch o i]))
    ∧ (∀ r p, it.subject = .plate r → it.bound = .restored p → presentProfile s r ≠ some p →
      let waits : State × List Task :=
        ({ setItemState o i (.waitRestore none) s with restoreWait := s.restoreWait ++ [(o, i)] }, [])
      perform (.workItem o i) s =
        match jobOn s r with
        | some j =>
          if j.profile = p ∧ j.waiting.length < 8 then
            (setItemState o i (.waitRestore (some j.number)) { s with
              jobs := s.jobs.map fun y => if y.number = j.number then { y with
                waiting := y.waiting ++ [(o, i)]
                priority := if y.priority = .routine then .order else y.priority } else y }, [.examineWaiting])
          else waits
        | none =>
          if s.jobs.length < 16 then
            let n := freeNumber s.nextJob (s.jobs.map (·.number))
            (modifyItem o i (fun y => { y with state := .waitRestore (some n), causedRepair := true }) { s with
              jobs := s.jobs ++ [⟨n, r, p, .order, .waiting, some (o, i), false, [(o, i)], false, none, 0, 0, 0, 0, 0,
                [], [], [], [], none, none⟩]
              nextJob := n % 255 + 1 }, [.examineWaiting])
          else waits)
    ∧ perform (.goFetch o i) s =
        ({ setItemState o i .pending s with slabWait := s.slabWait ++ [(o, i)] },
          if s.slabWait = [] then [.askSlabs] else []))
  ∧ ∀ s : State,
    (s.slabWait = [] → perform .askSlabs s = (s, []))
    ∧ (∀ o i rest it src, s.slabWait = (o, i) :: rest → findItem s o i = some it →
      copySource s it.subject it.bound.copy = some src →
      let k := (src.size + 65535) / 65536
      perform .askSlabs s =
        if s.free < k + 8192 then (s, [])
        else ({ modifyItem o i (fun y => { y with
              state := .fetching, slabs := grantedSlabs k s, source := some src, copyTiles := copyTilesOf s it }) s with
            slabWait := rest
            free := s.free - k
            freeCount := s.freeCount + 1
            reads := s.reads ++ [⟨.item o i, it.subject, it.bound.copy, src.loc.unit, src.loc.start, k, src.size,
              src.check⟩] },
          (if (unitAt s src.loc.unit).state = .faulted ∨ (unitAt s src.loc.unit).state = .absent then
            [.failAtOnce (.item o i)] else []) ++ [.askSlabs]))
    ∧ ∀ o i, (o, i) ∈ s.restoreWait → perform (.rework o i) s =
        ({ s with restoreWait := s.restoreWait.filter fun x => decide (x ≠ (o, i)) }, [.workItem o i])

/-- Settlement charges the account, releases the reservation, divides each collected photo item's fee, raises the
revenue counters, takes the order from the book and raises ORDER-SETTLED (R164, R174, R177 to R179). That the notice's
subject, an order number alone, goes as an order item with item number 0, and that the counters count on past 64
bits, are the model's choices (log 14 and 34). -/
def Obligations.SettlementChargesTheAccount : Prop :=
  ∀ (o : OrderRec) (s : State),
    let collected := o.items.filter fun i => decide (i.state = .collected)
    let sold := collected.filter fun i => decide (i.product = .photoPrint ∨ i.product = .photoFile)
    let n := (collected.map fun i => i.snapshot.base
      + min (3 * i.snapshot.base) (i.snapshot.base * i.snapshot.ageYears * i.snapshot.ageRate / 1000)
      + (if i.causedRepair then min i.snapshot.cap (i.copyTiles.getD 0 * i.snapshot.tileRate) else 0)).sum
    let charge := n + (collected.map (·.snapshot.fee)).sum - (n * o.discount + 500) / 1000
    let rights := (sold.map (·.snapshot.fee)).sum
    let accruals := (sold.map fun i =>
      if i.snapshot.holder = 0 then 0 else i.snapshot.fee * i.snapshot.share / 100).sum
    settleOrder o s = raise .orderSettled (.item o.number 0)
      [Wire.u8 o.account, .u32 charge, .u16 collected.length, .u16 (o.items.length - collected.length)] { s with
        accounts := s.accounts.map fun a => if a.number = o.account then
          { a with balance := a.balance - charge, reserved := a.reserved - o.reservation } else a
        holders := s.holders.mapIdx fun k h => { h with accrued := h.accrued + ((sold.filter fun i =>
          decide (i.snapshot.holder = k ∧ k ≠ 0)).map fun i => i.snapshot.fee * i.snapshot.share / 100).sum }
        revenue := ⟨s.revenue.orders + 1, s.revenue.charges + charge, s.revenue.rights + rights,
          s.revenue.accruals + accruals, s.revenue.houseRights + (rights - accruals),
          s.revenue.houseRevenue + (charge - accruals)⟩
        orders := s.orders.filter fun y => decide (y.number ≠ o.number) }

/-- An order's charge is no greater than its reservation, with the discount of its acceptance, when only items that
were to be made have caused a repair; it is 0 when no item is collected, and no less than the collected items'
licence fees (R172, R174, R176). -/
def Obligations.ChargeNeverExceedsReservation : Prop :=
  ∀ (items : List ItemRec) (d : Nat), d ≤ 250 → (∀ i ∈ items, i.causedRepair = true → i.toBeMade = true) →
    chargeOf items d ≤ reservationOf items d
    ∧ ((∀ i ∈ items, i.state ≠ .collected) → chargeOf items d = 0)
    ∧ ((items.filter fun i => decide (i.state = .collected)).map (·.snapshot.fee)).sum ≤ chargeOf items d

/-! ### Tariff, accounts, holders -/

/-- SET-TARIFF replaces one line with its values clamped; ACCOUNT-OPEN creates an ACTIVE account with balance and
reserved 0; ACCOUNT-CREDIT adds to the balance within its range and never below what is reserved; ACCOUNT-LIMIT sets limit
and tier; ACCOUNT-STATE sets the state; HOLDER-SET writes a label of 16 printable bytes; HOLDER-PAYOUT raises paid, never
above accrued (R168, R180 to R184, R187, R188). -/
def Obligations.TariffAndAccountRequests : Prop :=
  (∀ (tag : Nat) (r : TariffReq) (s : State), Acts (.setTariff ⟨tag, some r⟩) s →
     exec (.setTariff ⟨tag, some r⟩) s =
       let l : TariffLine := ⟨min r.base 1000000, min r.ageRate 100, min r.tileRate 500, min r.cap 1000000⟩
       let fields := [Wire.u8 r.product, .u32 l.base, .u8 l.ageRate, .u16 l.tileRate, .u32 l.cap]
       if r.product = 1 then endsDone tag fields { taken s with tariff := { s.tariff with pagePrint := l } }
       else if r.product = 2 then endsDone tag fields { taken s with tariff := { s.tariff with pageFile := l } }
       else if r.product = 3 then endsDone tag fields { taken s with tariff := { s.tariff with photoPrint := l } }
       else if r.product = 4 then endsDone tag fields { taken s with tariff := { s.tariff with photoFile := l } }
       else endsRefused tag .malformed s)
  ∧ (∀ (tag : Nat) (s : State),
     (∀ r, Acts (.accountOpen ⟨tag, some r⟩) s → exec (.accountOpen ⟨tag, some r⟩) s =
       if 255 < r.account ∨ 100000000 < r.limit then endsRefused tag .outOfRange s
       else if (findAccount s r.account).isSome then endsRefused tag .duplicate s
       else endsDone tag [Wire.u8 r.account, .u32 r.limit, .u16 (min r.tier 250)] { taken s with
         accounts := s.accounts ++ [⟨r.account, false, 0, r.limit, min r.tier 250, 0⟩] })
     ∧ (∀ r, Acts (.accountCredit ⟨tag, some r⟩) s → exec (.accountCredit ⟨tag, some r⟩) s =
       if 255 < r.account then endsRefused tag .outOfRange s
       else
         match findAccount s r.account with
         | none => endsRefused tag .noSuch s
         | some a =>
           let b := a.balance + r.adjustment
           if b < -2000000000 ∨ 2000000000 < b ∨ b + a.limit - a.reserved < 0 then endsRefused tag .outOfRange s
           else endsDone tag [Wire.s32 b, .s32 (b + a.limit - a.reserved)] { taken s with
             accounts := s.accounts.map fun y => if y.number = r.account then { y with balance := b } else y })
     ∧ (∀ r, Acts (.accountLimit ⟨tag, some r⟩) s → exec (.accountLimit ⟨tag, some r⟩) s =
       if 255 < r.account then endsRefused tag .outOfRange s
       else
         match findAccount s r.account with
         | none => endsRefused tag .noSuch s
         | some a =>
           if 100000000 < r.limit then endsRefused tag .outOfRange s
           else if a.balance + r.limit - a.reserved < 0 then endsRefused tag .funds s
           else endsDone tag [Wire.u32 r.limit, .u16 (min r.tier 250), .s32 (a.balance + r.limit - a.reserved)] { taken s with
             accounts := s.accounts.map fun y =>
               if y.number = r.account then { y with limit := r.limit, tier := min r.tier 250 } else y })
     ∧ ∀ r, Acts (.accountState ⟨tag, some r⟩) s → exec (.accountState ⟨tag, some r⟩) s =
       if 255 < r.account then endsRefused tag .outOfRange s
       else if r.state ≠ 1 ∧ r.state ≠ 2 then endsRefused tag .malformed s
       else
         match findAccount s r.account with
         | none => endsRefused tag .noSuch s
         | some a => endsDone tag [Wire.u8 (if a.suspended then 2 else 1), .u8 r.state] { taken s with
             accounts := s.accounts.map fun y =>
               if y.number = r.account then { y with suspended := decide (r.state = 2) } else y })
  ∧ (∀ (tag : Nat) (s : State),
     (∀ r, Acts (.holderSet ⟨tag, some r⟩) s → exec (.holderSet ⟨tag, some r⟩) s =
       if 63 < r.holder then endsRefused tag .outOfRange s
       else if r.label.length ≠ 16 ∨ ∃ x ∈ r.label, x.toNat < 0x20 ∨ 0x7E < x.toNat then endsRefused tag .malformed s
       else endsDone tag [Wire.u8 r.holder, .raw r.label] { taken s with
         holders := s.holders.modify r.holder fun h => { h with label := r.label } })
     ∧ (∀ r, 63 < r.holder → Acts (.holderPayout ⟨tag, some r⟩) s →
       exec (.holderPayout ⟨tag, some r⟩) s = endsRefused tag .outOfRange s)
     ∧ ∀ r h, s.holders[r.holder]? = some h → Acts (.holderPayout ⟨tag, some r⟩) s →
       exec (.holderPayout ⟨tag, some r⟩) s =
         if 63 < r.holder ∨ h.accrued < h.paid + r.amount then endsRefused tag .outOfRange s
         else endsDone tag
           [Wire.u64 h.accrued, .u64 (h.paid + r.amount), .u64 (h.accrued - (h.paid + r.amount))] { taken s with
             holders := s.holders.modify r.holder fun x => { x with paid := x.paid + r.amount } })

/-! ### Notices, STATUS, RESET -/

/-- A raised notice is dropped without trace when its category is disabled, sets the queue-full flag when 128 are
queued, and else joins the end with the time base as its stamp and drives the attention line; the one that brings
the count to 64 while the half mark is ARMED is followed by QUEUE-HALF and spends the mark. From a reset until READY
nothing is queued (R200 to R202, R204, R205, R216). -/
def Obligations.RaisedNoticesAreQueued : Prop :=
  ∀ (k : NoticeKind) (x : NoticeSubject) (d : List Wire) (s : State),
    (s.part = .starting → raise k x d s = s)
    ∧ (s.part = .ready → raise k x d s =
      if s.filter.passes k.category = false then s
      else if 128 ≤ s.notices.length then { s with queueFull := true }
      else if s.notices.length = 63 ∧ s.halfArmed = true then { s with
        notices := s.notices ++ [⟨k, s.timeBase, x, d⟩, ⟨.queueHalf, s.timeBase, .none, []⟩]
        attention := true, halfArmed := false }
      else { s with notices := s.notices ++ [⟨k, s.timeBase, x, d⟩], attention := true })
    ∧ s.filter.passes .system = true

/-- TAKE-NOTICES gives and removes the oldest notices, 1 for 0 and 16 for more, with the number left and the flag as
it stood; it clears the flag, arms the half mark when fewer than 64 are left and releases the attention line when none
is. SET-FILTER writes the five settings or refuses a value that is neither (R202 to R205). That TAKE-NOTICES gives the number
of notices and then their list with its own count is log 14. -/
def Obligations.NoticeRequests : Prop :=
  ∀ (tag : Nat) (s : State),
    (∀ n, Acts (.takeNotices ⟨tag, some n⟩) s → exec (.takeNotices ⟨tag, some n⟩) s =
      let m := if n = 0 then 1 else if 16 < n then 16 else n
      let given := s.notices.take m
      let left := s.notices.drop m
      endsDone tag ([Wire.u16 given.length, .u16 given.length] ++ given.flatMap Notice.wire
          ++ [Wire.u16 left.length, .u8 (if s.queueFull then 1 else 0)]) { taken s with
        notices := left
        queueFull := false
        halfArmed := if left.length < 64 then true else s.halfArmed
        attention := if left = [] then false else true })
    ∧ ∀ r, Acts (.setFilter ⟨tag, some r⟩) s → exec (.setFilter ⟨tag, some r⟩) s =
      if (r.edition = 1 ∨ r.edition = 2) ∧ (r.medium = 1 ∨ r.medium = 2) ∧ (r.fetch = 1 ∨ r.fetch = 2)
          ∧ (r.restore = 1 ∨ r.restore = 2) ∧ (r.order = 1 ∨ r.order = 2) then
        endsDone tag ([Wire.u8 (if s.filter.edition then 1 else 2), .u8 (if s.filter.medium then 1 else 2),
            .u8 (if s.filter.fetch then 1 else 2), .u8 (if s.filter.restore then 1 else 2),
            .u8 (if s.filter.order then 1 else 2)]
          ++ [Wire.u8 r.edition, .u8 r.medium, .u8 r.fetch, .u8 r.restore, .u8 r.order]) { taken s with
          filter := ⟨decide (r.edition = 1), decide (r.medium = 1), decide (r.fetch = 1), decide (r.restore = 1),
            decide (r.order = 1)⟩ }
      else endsRefused tag .malformed s

/-- The reports of accounts, of the revenue counters and holders, and of the part as a whole: STATUS is answered in
STARTING too. They change no record (R185, R189, R206). The sums go in 64 bits, modulo their top (log 34). That ACCOUNT-INFO's list of orders carries its count once, the four
unit states none, and the date no presence byte is log 14. -/
def Obligations.AccountReportsAndStatus : Prop :=
  ∀ (tag : Nat) (s : State),
    (∀ n, Acts (.accountInfo ⟨tag, some n⟩) s → exec (.accountInfo ⟨tag, some n⟩) s =
      if 255 < n then endsRefused tag .outOfRange s
      else
        match findAccount s n with
        | none => endsRefused tag .noSuch s
        | some a => endsDone tag ([Wire.u8 a.number, .u8 (if a.suspended then 2 else 1), .s32 a.balance, .u32 a.limit,
            .u16 a.tier, .u32 a.reserved, .s32 (a.balance + a.limit - a.reserved),
            .u16 (s.orders.filter fun o => decide (o.account = a.number)).length]
          ++ (s.orders.filter fun o => decide (o.account = a.number)).map fun o => .u8 o.number) (taken s))
    ∧ (∀ n, Acts (.revenueInfo ⟨tag, some (some n)⟩) s →
      (63 < n → exec (.revenueInfo ⟨tag, some (some n)⟩) s = endsRefused tag .outOfRange s)
      ∧ ∀ h, s.holders[n]? = some h → exec (.revenueInfo ⟨tag, some (some n)⟩) s =
        if 63 < n then endsRefused tag .outOfRange s
        else endsDone tag [Wire.raw h.label, .u64 h.accrued, .u64 h.paid, .u64 (h.accrued - h.paid)] (taken s))
    ∧ (Acts (.revenueInfo ⟨tag, some none⟩) s → exec (.revenueInfo ⟨tag, some none⟩) s =
      let l := (agencies s).filter fun x => decide (0 < x.2.accrued)
      endsDone tag ([Wire.u64 s.revenue.orders, .u64 s.revenue.charges, .u64 s.revenue.rights, .u64 s.revenue.accruals,
          .u64 s.revenue.houseRights, .u64 s.revenue.houseRevenue, .u64 ((agencies s).map (·.2.accrued)).sum,
          .u64 ((agencies s).map (·.2.paid)).sum, .u16 l.length] ++ l.flatMap holderBrief) (taken s))
    ∧ (Takes (.status ⟨tag, some ()⟩) s → exec (.status ⟨tag, some ()⟩) s =
      endsDone tag ([Wire.u8 (if s.part = .starting then 1 else 2), .u8 s.lastCause.code,
          .u8 (if s.supply = .normal then 1 else 2)]
        ++ (match s.date with
          | some d => [Wire.u8 1, .u16 d.today, .u32 d.seconds]
          | none => [Wire.u8 2])
        ++ [Wire.u32 s.timeBase.toNat, .u16 s.notices.length, .u8 (if s.queueFull then 1 else 0), .u16 s.queue.length,
          .u32 s.free, .u8 ((if s.held2 then 4 else 0) + if s.held3 then 8 else 0),
          .u8 (unitAt s 0).state.code, .u8 (unitAt s 1).state.code, .u8 (unitAt s 2).state.code,
          .u8 (unitAt s 3).state.code]) (taken s))
    ∧ (Takes (.status ⟨tag, none⟩) s → exec (.status ⟨tag, none⟩) s = endsRefused tag .malformed s)

/-! ### Calendar, supply, resets -/

/-- SET-DATE sets the date and the time of day with no ticks, reports what stood and what stands (no presence byte for the
date, and the state SET again with the new values: log 14), and runs the re-check. A tick raises the
time base; past its top it is 0 and TIME-WRAP is raised; while the date is SET the tick counts, and at the end of a day the
day rolls with DAY-ROLLED and the re-check (R209, R211 to R213; what the re-check returns is with R36's statement). TIME_WRAP
and DAY_ROLL are the ticks at which those happen, and no event at any other (log 7). No rule orders the two notices of a tick
that both wraps and rolls: that TIME-WRAP is raised before DAY-ROLLED is the model's choice (log 7). -/
def Obligations.DateAndTicks : Prop :=
  (∀ (tag : Nat) (r : DateReq) (s : State), Acts (.setDate ⟨tag, some r⟩) s →
     exec (.setDate ⟨tag, some r⟩) s =
       if 86399 < r.seconds then endsRefused tag .outOfRange s
       else
         let t := { taken s with date := some ⟨r.day, r.seconds, 0⟩ }
         endsDone tag ((match s.date with
             | some d => [Wire.u8 1, .u16 d.today, .u32 d.seconds]
             | none => [Wire.u8 2]) ++ [Wire.u8 1, .u16 r.day, .u32 r.seconds]) (drain (recheck t none) t))
  ∧ (∀ s : State,
     (s.timeBase ≠ 0xFFFFFFFF#32 →
       (s.date = none → exec .timeBaseTick s = .next { s with timeBase := s.timeBase + 1 })
       ∧ ∀ d, s.date = some d →
         (d.ticks < 99 → exec .timeBaseTick s
           = .next { s with timeBase := s.timeBase + 1, date := some ⟨d.today, d.seconds, d.ticks + 1⟩ })
         ∧ (99 ≤ d.ticks → d.seconds < 86399 → exec .timeBaseTick s
           = .next { s with timeBase := s.timeBase + 1, date := some ⟨d.today, d.seconds + 1, 0⟩ })
         ∧ (99 ≤ d.ticks → 86399 ≤ d.seconds → exec .timeBaseTick s =
           let day := if d.today < 65535 then d.today + 1 else 65535
           let t := raise .dayRolled .none [Wire.u16 day]
             { s with timeBase := s.timeBase + 1, date := some ⟨day, 0, 0⟩ }
           .next (drain (recheck t none) t)))
     ∧ (s.timeBase = 0xFFFFFFFF#32 →
       let u := raise .timeWrap .none [] { s with timeBase := 0 }
       (s.date = none → exec .timeBaseTick s = .next u)
       ∧ ∀ d, s.date = some d →
         (d.ticks < 99 → exec .timeBaseTick s = .next { u with date := some ⟨d.today, d.seconds, d.ticks + 1⟩ })
         ∧ (99 ≤ d.ticks → d.seconds < 86399 → exec .timeBaseTick s
           = .next { u with date := some ⟨d.today, d.seconds + 1, 0⟩ })
         ∧ (99 ≤ d.ticks → 86399 ≤ d.seconds → exec .timeBaseTick s =
           let day := if d.today < 65535 then d.today + 1 else 65535
           let t := raise .dayRolled .none [Wire.u16 day] { u with date := some ⟨day, 0, 0⟩ }
           .next (drain (recheck t none) t)))
     ∧ (s.timeBase = 0xFFFFFFFF#32 → exec .timeWrap s = exec .timeBaseTick s)
     ∧ (s.timeBase ≠ 0xFFFFFFFF#32 → exec .timeWrap s = .next s)
     ∧ (∀ d, s.date = some d → 99 ≤ d.ticks → 86399 ≤ d.seconds → exec .dayRoll s = exec .timeBaseTick s)
     ∧ (∀ d, s.date = some d → d.ticks < 99 ∨ d.seconds < 86399 → exec .dayRoll s = .next s)
     ∧ (s.date = none → exec .dayRoll s = .next s))

/-- The arm lapses after 10 s and the write hold ends after 2 s, counted modulo the wrap of the time base; a crossing
of the supply changes its state once, with its notice (R23, R210, R214, R220). With no timer running, before it is due, or
at a crossing that changes nothing, nothing happens, and an expiry acts at its tick or any later one (log 3 and 21); while a
POWER or BROWNOUT reset is held the supply state stays NORMAL (log 5). -/
def Obligations.ArmHoldAndSupply : Prop :=
  ∀ s : State,
    (∀ a, s.arm = some a → exec .armTimerExpiry s =
      if (s.timeBase - a.started).toNat < 1000 then .next s else .next { s with arm := none })
    ∧ (s.arm = none → exec .armTimerExpiry s = .next s)
    ∧ (∀ n, s.writeHold = some n → exec .writeHoldExpiry s =
      if (s.timeBase - n).toNat < 200 then .next s else .next { s with writeHold := none })
    ∧ (s.writeHold = none → exec .writeHoldExpiry s = .next s)
    ∧ (s.supplyHeld = false → s.supply = .normal →
      exec .supplyLow s = .next (raise .supplyLow .none [] { s with supply := .low }))
    ∧ (s.supplyHeld = true → exec .supplyLow s = .next s)
    ∧ (s.supply = .low → exec .supplyLow s = .next s)
    ∧ (s.supply = .low → exec .supplyNormal s = .next (raise .supplyNormal .none [] { s with supply := .normal }))
    ∧ (s.supply = .normal → exec .supplyNormal s = .next s)

/-- POWER, BROWNOUT and LINE discard all volatile work, the wait lists and a due LINK reset among it, unset the date, leave
the part STARTING with its cause recorded, and keep the catalogue store but for the reserved sums and the close timers; LINE
keeps the supply state; each holds the part, with no unit query outstanding, POWER and BROWNOUT by the supply and LINE by the
line (R69, R79, R92, R97, R115, R129, R145, R208, R210, R211, R214 to R218). A delivery is cut before its DONE, its first
frames sent, how many being free (R199; log 22); the unit positions stand ABSENT until they are queried (log 6); the time base
runs on while the reset holds (log 24); a line already asserted is not asserted again (log 3). A recovery pass under way is
cut: some of the records it changes are as they were, the others changed, and which are is free (R218; log 27). That what the
slabs hold is kept over each of the three, POWER among them, is the model's choice (log 12): R92 has a reset free every slab
and says that freeing one does not clear it. -/
def Obligations.HardResetsDiscardVolatileWork : Prop :=
  ∀ s : State, ∃ t u v,
    exec .powerReset s = .next t ∧ exec .brownoutReset s = .next u
    ∧ (s.lineHeld = false → exec .lineAssert s = .next v ∧ v.supply = s.supply ∧ v.lineHeld = true
      ∧ v.supplyHeld = s.supplyHeld)
    ∧ (s.lineHeld = true → exec .lineAssert s = .next s)
    ∧ (t.supplyHeld = true ∧ t.lineHeld = s.lineHeld) ∧ (u.supplyHeld = true ∧ u.lineHeld = s.lineHeld)
    ∧ t.lastCause = .power ∧ u.lastCause = .brownout ∧ v.lastCause = .line
    ∧ t.supply = .normal ∧ u.supply = .normal
    ∧ ∀ x, x = t ∨ x = u ∨ x = v →
      x.part = .starting ∧ x.date = none ∧ x.arm = none ∧ x.slots = [none, none, none, none] ∧ x.queue = []
      ∧ x.reads = [] ∧ x.held2 = false ∧ x.held3 = false ∧ x.free = 32768 ∧ x.tickets = [] ∧ x.nextTicket = 1
      ∧ x.jobs = [] ∧ x.nextJob = 1 ∧ x.engine = none ∧ x.orders = [] ∧ x.nextOrder = 1 ∧ x.notices = []
      ∧ x.slabWait = [] ∧ x.restoreWait = [] ∧ x.staging = s.staging ∧ x.queries = [none, none, none, none]
      ∧ x.timeBase = s.timeBase
      ∧ x.queueFull = false ∧ x.halfArmed = true ∧ x.attention = false ∧ x.receiver = .hunting false
      ∧ x.inputBuffer = [] ∧ x.outbound = .idle ∧ x.writeHold = none ∧ x.linkResetDue = false
      ∧ (s.outbound = .idle → x.linkOut = s.linkOut)
      ∧ (∀ d frames, s.outbound = .sending d frames → frames ≠ [] →
          ∃ k < frames.length, x.linkOut = s.linkOut ++ frames.take k)
      ∧ x.units = [⟨.absent, 0, 0, 0, 0, none⟩, ⟨.absent, 0, 0, 0, 0, none⟩, ⟨.absent, 0, 0, 0, 0, none⟩,
          ⟨.absent, 0, 0, 0, 0, none⟩]
      ∧ x.accounts = s.accounts.map (fun a => { a with reserved := 0 })
      ∧ x.passWrites = []
      ∧ (s.passWrites = [] → x.editions = s.editions.map Edition.stopTimer ∧ x.photos = s.photos)
      ∧ (∃ l : List PassWrite, l.Sublist s.passWrites
          ∧ x.editions = (l.foldl (fun y w => undoWrite w y) s).editions.map Edition.stopTimer
          ∧ x.photos = (l.foldl (fun y w => undoWrite w y) s).photos)
      ∧ x.profiles = s.profiles ∧ x.tariff = s.tariff ∧ x.holders = s.holders
      ∧ x.revenue = s.revenue ∧ x.commitLimit = s.commitLimit ∧ x.filter = s.filter

/-- When nothing holds the reset any more the part queries each unit from a time base of 0, and its recovery pass makes each
plate and photo that is RECEIVING, QUEUED or COMMITTING INCOMPLETE, with no location and its other fields as they were, and
each CLOSING edition OPEN, counts the records made INCOMPLETE, and changes nothing else; so none is left RECEIVING, QUEUED,
COMMITTING or CLOSING. A unit that answers is ONLINE, its free extents its
capacity less what the catalogue locates on it, or ABSENT when it is too small or does not answer within the commit limit.
The last position settled makes the part READY with STARTED queued and the write hold begun (R1, R4, R14, R72, R209, R216, R218
to R220; two holds at once are log 5). A release or recovery with nothing held, and a query limit not yet due, change nothing,
and the limit acts at its tick or any later one (log 3 and 21); that the recovery pass makes its writes as start-up begins and
is over when a position is settled, and what a record is while a reset may still find its write not made, is log 27; that the
four queries leave together, their limits from tick 0, is log 37; an answer to an earlier start-up's query is taken as one to
this (log 33). -/
def Obligations.StartUpSettlesThePart : Prop :=
  (∀ s : State,
     (s.supplyHeld = true → s.lineHeld = false → exec .supplyRecovered s = .next (startUp { s with supplyHeld := false }))
     ∧ (s.supplyHeld = true → s.lineHeld = true → exec .supplyRecovered s = .next { s with supplyHeld := false })
     ∧ (s.supplyHeld = false → exec .supplyRecovered s = .next s)
     ∧ (s.lineHeld = true → s.supplyHeld = false → exec .lineRelease s = .next (startUp { s with lineHeld := false }))
     ∧ (s.lineHeld = true → s.supplyHeld = true → exec .lineRelease s = .next { s with lineHeld := false })
     ∧ (s.lineHeld = false → exec .lineRelease s = .next s)
     ∧ startUp s = { s with
         timeBase := 0
         queries := [some 0, some 0, some 0, some 0]
         chainOut := s.chainOut ++ [.query 0, .query 1, .query 2, .query 3]
         incomplete := ((s.editions.flatMap Edition.plates).countP fun p => p.state.unfinished)
           + s.photos.countP fun p => p.state.unfinished
         passWrites :=
           (s.editions.flatMap fun e => e.pages.flatMap fun p => p.plates.zipIdx.flatMap fun x =>
             if x.1.state = .receiving ∨ x.1.state = .queued ∨ x.1.state = .committing then
               [.content (.plate ⟨e.day, e.index, p.page, x.2 + 1⟩) x.1.state x.1.location] else [])
           ++ (s.photos.flatMap fun x =>
             if x.state = .receiving ∨ x.state = .queued ∨ x.state = .committing then
               [.content (.photo x.number) x.state x.location] else [])
           ++ s.editions.flatMap fun e =>
             match e.state with
             | .closing target _ => [.close e.day e.index target]
             | _ => []
         editions := s.editions.map fun e => { e with
           state := if e.isClosing then .opened else e.state
           pages := e.pages.map fun p => { p with plates := p.plates.map fun x =>
             if x.state = .receiving ∨ x.state = .queued ∨ x.state = .committing then
               { x with state := .incomplete, location := none } else x } }
         photos := s.photos.map fun x =>
           if x.state = .receiving ∨ x.state = .queued ∨ x.state = .committing then
             { x with state := .incomplete, location := none } else x }
     ∧ (∀ e ∈ (startUp s).editions, e.isClosing = false ∧ ∀ p ∈ e.plates, p.state.unfinished = false)
     ∧ ∀ p ∈ (startUp s).photos, p.state.unfinished = false)
  ∧ (∀ (s : State) (u : Nat) (n : Tick), s.queries[u]? = some (some n) →
     (∀ capacity writes, exec (.unitQueryAnswer u capacity writes) s = .next (settleUnit u
       (if capacity < locatedOn s u then ⟨.absent, 0, 0, 0, 0, none⟩
         else ⟨.online, capacity, capacity - locatedOn s u, 0, writes, none⟩) s))
     ∧ exec (.queryLimitExpiry u) s =
         (if (s.timeBase - n).toNat < 100 * s.commitLimit then .next s
           else .next (settleUnit u ⟨.absent, 0, 0, 0, 0, none⟩ s))
     ∧ (∀ x, (∃ v m, v ≠ u ∧ s.queries[v]? = some (some m)) → settleUnit u x s =
         { s with units := s.units.set u x, queries := s.queries.set u none, passWrites := [] })
     ∧ ∀ x, (∀ v, v ≠ u → queryAt s v = none) → s.notices = [] → s.halfArmed = true → settleUnit u x s =
         { s with
           units := s.units.set u x, queries := s.queries.set u none, passWrites := [], part := .ready, attention := true
           notices := [⟨.started, s.timeBase, .none, [Wire.u8 s.lastCause.code, .u16 s.incomplete]⟩]
           writeHold := some s.timeBase })
  ∧ ∀ (s : State) (was : ContentState) (l : Option Location),
     (∀ r, undoWrite (.content (.plate r) was l) s =
         modifyPlate r (fun p => if p.state = .incomplete ∧ was.unfinished = true then
           { p with state := was, location := l } else p) s)
     ∧ (∀ n, undoWrite (.content (.photo n) was l) s = { s with photos := s.photos.map fun p =>
         if p.number = n ∧ p.state = .incomplete ∧ was.unfinished = true then
           { p with state := was, location := l } else p })
     ∧ ∀ day index target, undoWrite (.close day index target) s = { s with editions := s.editions.map fun e =>
         if e.day = day ∧ e.index = index ∧ e.state = .opened then { e with state := .closing target none } else e }

/-- RESET ends DONE and makes the LINK reset due, so no further request is taken until it takes effect. It then aborts BUSY
units, discards all volatile work, keeps the date, the time base, the supply state, the unit records and the catalogue store
but for the reserved sums, counts the units' free extents anew, makes each plate and photo that is RECEIVING, QUEUED or
COMMITTING INCOMPLETE and each CLOSING edition OPEN, and leaves the part STARTING with no write hold; a delivery is cut as by
any reset (log 22). When its recovery is done the part is READY with STARTED queued (R1, R69, R79, R97, R115, R145, R180,
R199, R207, R208, R216 to R220). That LINK_RESET stands for both moments is log 8, that the recovery pass makes its writes as
start-up begins, and so in LINK_RESET's own step, is log 27; with neither moment to come it changes nothing (log 3). That what
the slabs hold is kept over the LINK reset is the model's choice (log 12), its reading of R92, which has a reset free every
slab and says that freeing one does not clear it. -/
def Obligations.ResetRequestLeadsToLinkReset : Prop :=
  (∀ (tag : Nat) (s : State), Acts (.reset ⟨tag, some ()⟩) s →
    exec (.reset ⟨tag, some ()⟩) s = endsDone tag [] { taken s with linkResetDue := true })
  ∧ (∀ s : State,
    s.linkResetDue = true → ∃ t, exec .linkReset s = .next t
      ∧ (t.part = .starting ∧ t.lastCause = .link ∧ t.linkResetDue = false ∧ t.date = s.date ∧ t.timeBase = s.timeBase
        ∧ t.supply = s.supply ∧ t.supplyHeld = s.supplyHeld ∧ t.lineHeld = s.lineHeld ∧ t.writeHold = none
        ∧ t.queries = [none, none, none, none])
      ∧ (t.slots = [none, none, none, none] ∧ t.queue = [] ∧ t.reads = [] ∧ t.held2 = false ∧ t.held3 = false
        ∧ t.free = 32768 ∧ t.staging = s.staging ∧ t.tickets = [] ∧ t.nextTicket = 1 ∧ t.jobs = [] ∧ t.nextJob = 1
        ∧ t.engine = none ∧ t.orders = [] ∧ t.nextOrder = 1 ∧ t.slabWait = [] ∧ t.restoreWait = [] ∧ t.arm = none)
      ∧ (t.notices = [] ∧ t.queueFull = false ∧ t.halfArmed = true ∧ t.attention = false ∧ t.receiver = .hunting false
        ∧ t.inputBuffer = [] ∧ t.outbound = .idle ∧ (s.outbound = .idle → t.linkOut = s.linkOut)
        ∧ ∀ d frames, s.outbound = .sending d frames → frames ≠ [] →
            ∃ k < frames.length, t.linkOut = s.linkOut ++ frames.take k)
      ∧ (t.accounts = s.accounts.map (fun a => { a with reserved := 0 }) ∧ t.profiles = s.profiles ∧ t.tariff = s.tariff
        ∧ t.holders = s.holders ∧ t.revenue = s.revenue ∧ t.commitLimit = s.commitLimit ∧ t.filter = s.filter)
      ∧ t.incomplete = ((s.editions.flatMap Edition.plates).countP fun p => p.state.unfinished)
          + s.photos.countP (fun p => p.state.unfinished)
      ∧ t.editions = s.editions.map (fun e => { e with
          state := if e.isClosing then .opened else e.state
          pages := e.pages.map fun p => { p with plates := p.plates.map fun x =>
            if x.state = .receiving ∨ x.state = .queued ∨ x.state = .committing then
              { x with state := .incomplete, location := none } else x } })
      ∧ t.photos = s.photos.map (fun x =>
          if x.state = .receiving ∨ x.state = .queued ∨ x.state = .committing then
            { x with state := .incomplete, location := none } else x)
      ∧ t.passWrites =
          (s.editions.flatMap fun e => e.pages.flatMap fun p => p.plates.zipIdx.flatMap fun x =>
            if x.1.state = .receiving ∨ x.1.state = .queued ∨ x.1.state = .committing then
              [.content (.plate ⟨e.day, e.index, p.page, x.2 + 1⟩) x.1.state x.1.location] else [])
          ++ (s.photos.flatMap fun x =>
            if x.state = .receiving ∨ x.state = .queued ∨ x.state = .committing then
              [.content (.photo x.number) x.state x.location] else [])
          ++ (s.editions.flatMap fun e =>
            match e.state with
            | .closing target _ => [.close e.day e.index target]
            | _ => [])
      ∧ t.chainOut = s.chainOut ++ (((List.range s.units.length).filter fun k => (unitAt s k).op.isSome).map .abort)
      ∧ t.units.length = s.units.length
      ∧ ∀ k x, s.units[k]? = some x → ∃ y, t.units[k]? = some y ∧ y.op = none ∧ y.state = x.state
          ∧ y.capacity = x.capacity ∧ y.failures = x.failures ∧ y.writeCount = x.writeCount
          ∧ (x.state ≠ .absent → y.free = x.capacity - locatedOn t k))
  ∧ ∀ s : State, s.linkResetDue = false →
    (s.part = .starting → s.lastCause = .link → s.notices = [] → s.halfArmed = true →
      exec .linkReset s = .next { s with
        part := .ready, passWrites := [], attention := true
        notices := [⟨.started, s.timeBase, .none, [Wire.u8 4, .u16 s.incomplete]⟩] })
    ∧ (s.part = .ready ∨ s.lastCause ≠ .link → exec .linkReset s = .next s)
end

