-- ==== Sys2Proof/Laws/State.lean ====
section
/-! SUPPORT. What each update of State leaves alone, one lemma per update: simp takes each conjunct as a rule, so
no proof unfolds a record update. A second lemma gives the fields the update writes. -/

namespace Sys2Proof.Machine

@[simp] theorem taken_keeps (s : State) :
    (taken s).editions = s.editions ∧ (taken s).photos = s.photos ∧ (taken s).profiles = s.profiles
     ∧ (taken s).tariff = s.tariff ∧ (taken s).accounts = s.accounts ∧ (taken s).holders = s.holders
     ∧ (taken s).revenue = s.revenue ∧ (taken s).commitLimit = s.commitLimit ∧ (taken s).filter = s.filter
     ∧ (taken s).slots = s.slots ∧ (taken s).queue = s.queue ∧ (taken s).units = s.units
     ∧ (taken s).reads = s.reads ∧ (taken s).held2 = s.held2 ∧ (taken s).held3 = s.held3
     ∧ (taken s).free = s.free ∧ (taken s).staging = s.staging ∧ (taken s).tickets = s.tickets
     ∧ (taken s).nextTicket = s.nextTicket ∧ (taken s).jobs = s.jobs ∧ (taken s).nextJob = s.nextJob
     ∧ (taken s).engine = s.engine ∧ (taken s).orders = s.orders ∧ (taken s).nextOrder = s.nextOrder
     ∧ (taken s).slabWait = s.slabWait ∧ (taken s).restoreWait = s.restoreWait ∧ (taken s).notices = s.notices
     ∧ (taken s).queueFull = s.queueFull ∧ (taken s).halfArmed = s.halfArmed ∧ (taken s).attention = s.attention
     ∧ (taken s).receiver = s.receiver ∧ (taken s).outbound = s.outbound
     ∧ (taken s).linkResetDue = s.linkResetDue ∧ (taken s).timeBase = s.timeBase ∧ (taken s).date = s.date
     ∧ (taken s).supply = s.supply ∧ (taken s).part = s.part ∧ (taken s).lastCause = s.lastCause
     ∧ (taken s).supplyHeld = s.supplyHeld ∧ (taken s).lineHeld = s.lineHeld ∧ (taken s).queries = s.queries
     ∧ (taken s).incomplete = s.incomplete ∧ (taken s).writeHold = s.writeHold
     ∧ (taken s).passWrites = s.passWrites ∧ (taken s).linkOut = s.linkOut ∧ (taken s).chainOut = s.chainOut
     ∧ (taken s).opCount = s.opCount ∧ (taken s).freeCount = s.freeCount ∧ (taken s).pending = s.pending :=
  ⟨rfl, rfl, rfl, rfl, rfl, rfl, rfl, rfl, rfl, rfl, rfl, rfl, rfl, rfl, rfl, rfl, rfl, rfl, rfl, rfl,
   rfl, rfl, rfl, rfl, rfl, rfl, rfl, rfl, rfl, rfl, rfl, rfl, rfl, rfl, rfl, rfl, rfl, rfl, rfl, rfl,
   rfl, rfl, rfl, rfl, rfl, rfl, rfl, rfl, rfl⟩

@[simp] theorem taken_writes (s : State) :
    (taken s).inputBuffer = s.inputBuffer.tail ∧ (taken s).arm = none :=
  ⟨rfl, rfl⟩

@[simp] theorem send_keeps (f : OutFrame) (s : State) :
    (send f s).editions = s.editions ∧ (send f s).photos = s.photos ∧ (send f s).profiles = s.profiles
     ∧ (send f s).tariff = s.tariff ∧ (send f s).accounts = s.accounts ∧ (send f s).holders = s.holders
     ∧ (send f s).revenue = s.revenue ∧ (send f s).commitLimit = s.commitLimit ∧ (send f s).filter = s.filter
     ∧ (send f s).arm = s.arm ∧ (send f s).slots = s.slots ∧ (send f s).queue = s.queue
     ∧ (send f s).units = s.units ∧ (send f s).reads = s.reads ∧ (send f s).held2 = s.held2
     ∧ (send f s).held3 = s.held3 ∧ (send f s).free = s.free ∧ (send f s).staging = s.staging
     ∧ (send f s).tickets = s.tickets ∧ (send f s).nextTicket = s.nextTicket ∧ (send f s).jobs = s.jobs
     ∧ (send f s).nextJob = s.nextJob ∧ (send f s).engine = s.engine ∧ (send f s).orders = s.orders
     ∧ (send f s).nextOrder = s.nextOrder ∧ (send f s).slabWait = s.slabWait
     ∧ (send f s).restoreWait = s.restoreWait ∧ (send f s).notices = s.notices
     ∧ (send f s).queueFull = s.queueFull ∧ (send f s).halfArmed = s.halfArmed
     ∧ (send f s).attention = s.attention ∧ (send f s).receiver = s.receiver
     ∧ (send f s).inputBuffer = s.inputBuffer ∧ (send f s).outbound = s.outbound
     ∧ (send f s).linkResetDue = s.linkResetDue ∧ (send f s).timeBase = s.timeBase ∧ (send f s).date = s.date
     ∧ (send f s).supply = s.supply ∧ (send f s).part = s.part ∧ (send f s).lastCause = s.lastCause
     ∧ (send f s).supplyHeld = s.supplyHeld ∧ (send f s).lineHeld = s.lineHeld ∧ (send f s).queries = s.queries
     ∧ (send f s).incomplete = s.incomplete ∧ (send f s).writeHold = s.writeHold
     ∧ (send f s).passWrites = s.passWrites ∧ (send f s).chainOut = s.chainOut ∧ (send f s).opCount = s.opCount
     ∧ (send f s).freeCount = s.freeCount ∧ (send f s).pending = s.pending :=
  ⟨rfl, rfl, rfl, rfl, rfl, rfl, rfl, rfl, rfl, rfl, rfl, rfl, rfl, rfl, rfl, rfl, rfl, rfl, rfl, rfl,
   rfl, rfl, rfl, rfl, rfl, rfl, rfl, rfl, rfl, rfl, rfl, rfl, rfl, rfl, rfl, rfl, rfl, rfl, rfl, rfl,
   rfl, rfl, rfl, rfl, rfl, rfl, rfl, rfl, rfl, rfl⟩

@[simp] theorem send_writes (f : OutFrame) (s : State) :
    (send f s).linkOut = s.linkOut ++ [f] :=
  rfl

@[simp] theorem replied_keeps (tag : Nat) (b : ReplyBody) (s : State) :
    (replied tag b s).editions = s.editions ∧ (replied tag b s).photos = s.photos
     ∧ (replied tag b s).profiles = s.profiles ∧ (replied tag b s).tariff = s.tariff
     ∧ (replied tag b s).accounts = s.accounts ∧ (replied tag b s).holders = s.holders
     ∧ (replied tag b s).revenue = s.revenue ∧ (replied tag b s).commitLimit = s.commitLimit
     ∧ (replied tag b s).filter = s.filter ∧ (replied tag b s).arm = s.arm ∧ (replied tag b s).slots = s.slots
     ∧ (replied tag b s).queue = s.queue ∧ (replied tag b s).units = s.units ∧ (replied tag b s).reads = s.reads
     ∧ (replied tag b s).held2 = s.held2 ∧ (replied tag b s).held3 = s.held3 ∧ (replied tag b s).free = s.free
     ∧ (replied tag b s).staging = s.staging ∧ (replied tag b s).tickets = s.tickets
     ∧ (replied tag b s).nextTicket = s.nextTicket ∧ (replied tag b s).jobs = s.jobs
     ∧ (replied tag b s).nextJob = s.nextJob ∧ (replied tag b s).engine = s.engine
     ∧ (replied tag b s).orders = s.orders ∧ (replied tag b s).nextOrder = s.nextOrder
     ∧ (replied tag b s).slabWait = s.slabWait ∧ (replied tag b s).restoreWait = s.restoreWait
     ∧ (replied tag b s).notices = s.notices ∧ (replied tag b s).queueFull = s.queueFull
     ∧ (replied tag b s).halfArmed = s.halfArmed ∧ (replied tag b s).attention = s.attention
     ∧ (replied tag b s).receiver = s.receiver ∧ (replied tag b s).inputBuffer = s.inputBuffer
     ∧ (replied tag b s).outbound = s.outbound ∧ (replied tag b s).linkResetDue = s.linkResetDue
     ∧ (replied tag b s).timeBase = s.timeBase ∧ (replied tag b s).date = s.date
     ∧ (replied tag b s).supply = s.supply ∧ (replied tag b s).part = s.part
     ∧ (replied tag b s).lastCause = s.lastCause ∧ (replied tag b s).supplyHeld = s.supplyHeld
     ∧ (replied tag b s).lineHeld = s.lineHeld ∧ (replied tag b s).queries = s.queries
     ∧ (replied tag b s).incomplete = s.incomplete ∧ (replied tag b s).writeHold = s.writeHold
     ∧ (replied tag b s).passWrites = s.passWrites ∧ (replied tag b s).chainOut = s.chainOut
     ∧ (replied tag b s).opCount = s.opCount ∧ (replied tag b s).freeCount = s.freeCount
     ∧ (replied tag b s).pending = s.pending :=
  ⟨rfl, rfl, rfl, rfl, rfl, rfl, rfl, rfl, rfl, rfl, rfl, rfl, rfl, rfl, rfl, rfl, rfl, rfl, rfl, rfl,
   rfl, rfl, rfl, rfl, rfl, rfl, rfl, rfl, rfl, rfl, rfl, rfl, rfl, rfl, rfl, rfl, rfl, rfl, rfl, rfl,
   rfl, rfl, rfl, rfl, rfl, rfl, rfl, rfl, rfl, rfl⟩

@[simp] theorem replied_writes (tag : Nat) (b : ReplyBody) (s : State) :
    (replied tag b s).linkOut = s.linkOut ++ [.reply tag b] :=
  rfl

@[simp] theorem tell_keeps (m : ChainMsg) (s : State) :
    (tell m s).editions = s.editions ∧ (tell m s).photos = s.photos ∧ (tell m s).profiles = s.profiles
     ∧ (tell m s).tariff = s.tariff ∧ (tell m s).accounts = s.accounts ∧ (tell m s).holders = s.holders
     ∧ (tell m s).revenue = s.revenue ∧ (tell m s).commitLimit = s.commitLimit ∧ (tell m s).filter = s.filter
     ∧ (tell m s).arm = s.arm ∧ (tell m s).slots = s.slots ∧ (tell m s).queue = s.queue
     ∧ (tell m s).units = s.units ∧ (tell m s).reads = s.reads ∧ (tell m s).held2 = s.held2
     ∧ (tell m s).held3 = s.held3 ∧ (tell m s).free = s.free ∧ (tell m s).staging = s.staging
     ∧ (tell m s).tickets = s.tickets ∧ (tell m s).nextTicket = s.nextTicket ∧ (tell m s).jobs = s.jobs
     ∧ (tell m s).nextJob = s.nextJob ∧ (tell m s).engine = s.engine ∧ (tell m s).orders = s.orders
     ∧ (tell m s).nextOrder = s.nextOrder ∧ (tell m s).slabWait = s.slabWait
     ∧ (tell m s).restoreWait = s.restoreWait ∧ (tell m s).notices = s.notices
     ∧ (tell m s).queueFull = s.queueFull ∧ (tell m s).halfArmed = s.halfArmed
     ∧ (tell m s).attention = s.attention ∧ (tell m s).receiver = s.receiver
     ∧ (tell m s).inputBuffer = s.inputBuffer ∧ (tell m s).outbound = s.outbound
     ∧ (tell m s).linkResetDue = s.linkResetDue ∧ (tell m s).timeBase = s.timeBase ∧ (tell m s).date = s.date
     ∧ (tell m s).supply = s.supply ∧ (tell m s).part = s.part ∧ (tell m s).lastCause = s.lastCause
     ∧ (tell m s).supplyHeld = s.supplyHeld ∧ (tell m s).lineHeld = s.lineHeld ∧ (tell m s).queries = s.queries
     ∧ (tell m s).incomplete = s.incomplete ∧ (tell m s).writeHold = s.writeHold
     ∧ (tell m s).passWrites = s.passWrites ∧ (tell m s).linkOut = s.linkOut ∧ (tell m s).opCount = s.opCount
     ∧ (tell m s).freeCount = s.freeCount ∧ (tell m s).pending = s.pending :=
  ⟨rfl, rfl, rfl, rfl, rfl, rfl, rfl, rfl, rfl, rfl, rfl, rfl, rfl, rfl, rfl, rfl, rfl, rfl, rfl, rfl,
   rfl, rfl, rfl, rfl, rfl, rfl, rfl, rfl, rfl, rfl, rfl, rfl, rfl, rfl, rfl, rfl, rfl, rfl, rfl, rfl,
   rfl, rfl, rfl, rfl, rfl, rfl, rfl, rfl, rfl, rfl⟩

@[simp] theorem tell_writes (m : ChainMsg) (s : State) :
    (tell m s).chainOut = s.chainOut ++ [m] :=
  rfl

@[simp] theorem takeSlabs_keeps (n : Nat) (s : State) :
    (takeSlabs n s).editions = s.editions ∧ (takeSlabs n s).photos = s.photos
     ∧ (takeSlabs n s).profiles = s.profiles ∧ (takeSlabs n s).tariff = s.tariff
     ∧ (takeSlabs n s).accounts = s.accounts ∧ (takeSlabs n s).holders = s.holders
     ∧ (takeSlabs n s).revenue = s.revenue ∧ (takeSlabs n s).commitLimit = s.commitLimit
     ∧ (takeSlabs n s).filter = s.filter ∧ (takeSlabs n s).arm = s.arm ∧ (takeSlabs n s).slots = s.slots
     ∧ (takeSlabs n s).queue = s.queue ∧ (takeSlabs n s).units = s.units ∧ (takeSlabs n s).reads = s.reads
     ∧ (takeSlabs n s).held2 = s.held2 ∧ (takeSlabs n s).held3 = s.held3 ∧ (takeSlabs n s).staging = s.staging
     ∧ (takeSlabs n s).tickets = s.tickets ∧ (takeSlabs n s).nextTicket = s.nextTicket
     ∧ (takeSlabs n s).jobs = s.jobs ∧ (takeSlabs n s).nextJob = s.nextJob ∧ (takeSlabs n s).engine = s.engine
     ∧ (takeSlabs n s).orders = s.orders ∧ (takeSlabs n s).nextOrder = s.nextOrder
     ∧ (takeSlabs n s).slabWait = s.slabWait ∧ (takeSlabs n s).restoreWait = s.restoreWait
     ∧ (takeSlabs n s).notices = s.notices ∧ (takeSlabs n s).queueFull = s.queueFull
     ∧ (takeSlabs n s).halfArmed = s.halfArmed ∧ (takeSlabs n s).attention = s.attention
     ∧ (takeSlabs n s).receiver = s.receiver ∧ (takeSlabs n s).inputBuffer = s.inputBuffer
     ∧ (takeSlabs n s).outbound = s.outbound ∧ (takeSlabs n s).linkResetDue = s.linkResetDue
     ∧ (takeSlabs n s).timeBase = s.timeBase ∧ (takeSlabs n s).date = s.date ∧ (takeSlabs n s).supply = s.supply
     ∧ (takeSlabs n s).part = s.part ∧ (takeSlabs n s).lastCause = s.lastCause
     ∧ (takeSlabs n s).supplyHeld = s.supplyHeld ∧ (takeSlabs n s).lineHeld = s.lineHeld
     ∧ (takeSlabs n s).queries = s.queries ∧ (takeSlabs n s).incomplete = s.incomplete
     ∧ (takeSlabs n s).writeHold = s.writeHold ∧ (takeSlabs n s).passWrites = s.passWrites
     ∧ (takeSlabs n s).linkOut = s.linkOut ∧ (takeSlabs n s).chainOut = s.chainOut
     ∧ (takeSlabs n s).opCount = s.opCount ∧ (takeSlabs n s).pending = s.pending :=
  ⟨rfl, rfl, rfl, rfl, rfl, rfl, rfl, rfl, rfl, rfl, rfl, rfl, rfl, rfl, rfl, rfl, rfl, rfl, rfl, rfl,
   rfl, rfl, rfl, rfl, rfl, rfl, rfl, rfl, rfl, rfl, rfl, rfl, rfl, rfl, rfl, rfl, rfl, rfl, rfl, rfl,
   rfl, rfl, rfl, rfl, rfl, rfl, rfl, rfl, rfl⟩

@[simp] theorem takeSlabs_writes (n : Nat) (s : State) :
    (takeSlabs n s).free = s.free - n ∧ (takeSlabs n s).freeCount = s.freeCount + 1 :=
  ⟨rfl, rfl⟩

@[simp] theorem returnSlabs_keeps (l : List Nat) (s : State) :
    (returnSlabs l s).editions = s.editions ∧ (returnSlabs l s).photos = s.photos
     ∧ (returnSlabs l s).profiles = s.profiles ∧ (returnSlabs l s).tariff = s.tariff
     ∧ (returnSlabs l s).accounts = s.accounts ∧ (returnSlabs l s).holders = s.holders
     ∧ (returnSlabs l s).revenue = s.revenue ∧ (returnSlabs l s).commitLimit = s.commitLimit
     ∧ (returnSlabs l s).filter = s.filter ∧ (returnSlabs l s).arm = s.arm ∧ (returnSlabs l s).slots = s.slots
     ∧ (returnSlabs l s).queue = s.queue ∧ (returnSlabs l s).units = s.units ∧ (returnSlabs l s).reads = s.reads
     ∧ (returnSlabs l s).held2 = s.held2 ∧ (returnSlabs l s).held3 = s.held3
     ∧ (returnSlabs l s).staging = s.staging ∧ (returnSlabs l s).tickets = s.tickets
     ∧ (returnSlabs l s).nextTicket = s.nextTicket ∧ (returnSlabs l s).jobs = s.jobs
     ∧ (returnSlabs l s).nextJob = s.nextJob ∧ (returnSlabs l s).engine = s.engine
     ∧ (returnSlabs l s).orders = s.orders ∧ (returnSlabs l s).nextOrder = s.nextOrder
     ∧ (returnSlabs l s).slabWait = s.slabWait ∧ (returnSlabs l s).restoreWait = s.restoreWait
     ∧ (returnSlabs l s).notices = s.notices ∧ (returnSlabs l s).queueFull = s.queueFull
     ∧ (returnSlabs l s).halfArmed = s.halfArmed ∧ (returnSlabs l s).attention = s.attention
     ∧ (returnSlabs l s).receiver = s.receiver ∧ (returnSlabs l s).inputBuffer = s.inputBuffer
     ∧ (returnSlabs l s).outbound = s.outbound ∧ (returnSlabs l s).linkResetDue = s.linkResetDue
     ∧ (returnSlabs l s).timeBase = s.timeBase ∧ (returnSlabs l s).date = s.date
     ∧ (returnSlabs l s).supply = s.supply ∧ (returnSlabs l s).part = s.part
     ∧ (returnSlabs l s).lastCause = s.lastCause ∧ (returnSlabs l s).supplyHeld = s.supplyHeld
     ∧ (returnSlabs l s).lineHeld = s.lineHeld ∧ (returnSlabs l s).queries = s.queries
     ∧ (returnSlabs l s).incomplete = s.incomplete ∧ (returnSlabs l s).writeHold = s.writeHold
     ∧ (returnSlabs l s).passWrites = s.passWrites ∧ (returnSlabs l s).linkOut = s.linkOut
     ∧ (returnSlabs l s).chainOut = s.chainOut ∧ (returnSlabs l s).opCount = s.opCount
     ∧ (returnSlabs l s).freeCount = s.freeCount ∧ (returnSlabs l s).pending = s.pending :=
  ⟨rfl, rfl, rfl, rfl, rfl, rfl, rfl, rfl, rfl, rfl, rfl, rfl, rfl, rfl, rfl, rfl, rfl, rfl, rfl, rfl,
   rfl, rfl, rfl, rfl, rfl, rfl, rfl, rfl, rfl, rfl, rfl, rfl, rfl, rfl, rfl, rfl, rfl, rfl, rfl, rfl,
   rfl, rfl, rfl, rfl, rfl, rfl, rfl, rfl, rfl, rfl⟩

@[simp] theorem returnSlabs_writes (l : List Nat) (s : State) :
    (returnSlabs l s).free = s.free + l.length :=
  rfl

@[simp] theorem stage_keeps (l : List Nat) (p : Nat) (b : List Byte) (s : State) :
    (stage l p b s).editions = s.editions ∧ (stage l p b s).photos = s.photos
     ∧ (stage l p b s).profiles = s.profiles ∧ (stage l p b s).tariff = s.tariff
     ∧ (stage l p b s).accounts = s.accounts ∧ (stage l p b s).holders = s.holders
     ∧ (stage l p b s).revenue = s.revenue ∧ (stage l p b s).commitLimit = s.commitLimit
     ∧ (stage l p b s).filter = s.filter ∧ (stage l p b s).arm = s.arm ∧ (stage l p b s).slots = s.slots
     ∧ (stage l p b s).queue = s.queue ∧ (stage l p b s).units = s.units ∧ (stage l p b s).reads = s.reads
     ∧ (stage l p b s).held2 = s.held2 ∧ (stage l p b s).held3 = s.held3 ∧ (stage l p b s).free = s.free
     ∧ (stage l p b s).tickets = s.tickets ∧ (stage l p b s).nextTicket = s.nextTicket
     ∧ (stage l p b s).jobs = s.jobs ∧ (stage l p b s).nextJob = s.nextJob ∧ (stage l p b s).engine = s.engine
     ∧ (stage l p b s).orders = s.orders ∧ (stage l p b s).nextOrder = s.nextOrder
     ∧ (stage l p b s).slabWait = s.slabWait ∧ (stage l p b s).restoreWait = s.restoreWait
     ∧ (stage l p b s).notices = s.notices ∧ (stage l p b s).queueFull = s.queueFull
     ∧ (stage l p b s).halfArmed = s.halfArmed ∧ (stage l p b s).attention = s.attention
     ∧ (stage l p b s).receiver = s.receiver ∧ (stage l p b s).inputBuffer = s.inputBuffer
     ∧ (stage l p b s).outbound = s.outbound ∧ (stage l p b s).linkResetDue = s.linkResetDue
     ∧ (stage l p b s).timeBase = s.timeBase ∧ (stage l p b s).date = s.date ∧ (stage l p b s).supply = s.supply
     ∧ (stage l p b s).part = s.part ∧ (stage l p b s).lastCause = s.lastCause
     ∧ (stage l p b s).supplyHeld = s.supplyHeld ∧ (stage l p b s).lineHeld = s.lineHeld
     ∧ (stage l p b s).queries = s.queries ∧ (stage l p b s).incomplete = s.incomplete
     ∧ (stage l p b s).writeHold = s.writeHold ∧ (stage l p b s).passWrites = s.passWrites
     ∧ (stage l p b s).linkOut = s.linkOut ∧ (stage l p b s).chainOut = s.chainOut
     ∧ (stage l p b s).opCount = s.opCount ∧ (stage l p b s).freeCount = s.freeCount
     ∧ (stage l p b s).pending = s.pending :=
  ⟨rfl, rfl, rfl, rfl, rfl, rfl, rfl, rfl, rfl, rfl, rfl, rfl, rfl, rfl, rfl, rfl, rfl, rfl, rfl, rfl,
   rfl, rfl, rfl, rfl, rfl, rfl, rfl, rfl, rfl, rfl, rfl, rfl, rfl, rfl, rfl, rfl, rfl, rfl, rfl, rfl,
   rfl, rfl, rfl, rfl, rfl, rfl, rfl, rfl, rfl, rfl⟩

@[simp] theorem stage_writes (l : List Nat) (p : Nat) (b : List Byte) (s : State) :
    (stage l p b s).staging = writeHolder l p b s.staging :=
  rfl

@[simp] theorem addRead_keeps (r : Read) (s : State) :
    (addRead r s).editions = s.editions ∧ (addRead r s).photos = s.photos ∧ (addRead r s).profiles = s.profiles
     ∧ (addRead r s).tariff = s.tariff ∧ (addRead r s).accounts = s.accounts ∧ (addRead r s).holders = s.holders
     ∧ (addRead r s).revenue = s.revenue ∧ (addRead r s).commitLimit = s.commitLimit
     ∧ (addRead r s).filter = s.filter ∧ (addRead r s).arm = s.arm ∧ (addRead r s).slots = s.slots
     ∧ (addRead r s).queue = s.queue ∧ (addRead r s).units = s.units ∧ (addRead r s).held2 = s.held2
     ∧ (addRead r s).held3 = s.held3 ∧ (addRead r s).free = s.free ∧ (addRead r s).staging = s.staging
     ∧ (addRead r s).tickets = s.tickets ∧ (addRead r s).nextTicket = s.nextTicket ∧ (addRead r s).jobs = s.jobs
     ∧ (addRead r s).nextJob = s.nextJob ∧ (addRead r s).engine = s.engine ∧ (addRead r s).orders = s.orders
     ∧ (addRead r s).nextOrder = s.nextOrder ∧ (addRead r s).slabWait = s.slabWait
     ∧ (addRead r s).restoreWait = s.restoreWait ∧ (addRead r s).notices = s.notices
     ∧ (addRead r s).queueFull = s.queueFull ∧ (addRead r s).halfArmed = s.halfArmed
     ∧ (addRead r s).attention = s.attention ∧ (addRead r s).receiver = s.receiver
     ∧ (addRead r s).inputBuffer = s.inputBuffer ∧ (addRead r s).outbound = s.outbound
     ∧ (addRead r s).linkResetDue = s.linkResetDue ∧ (addRead r s).timeBase = s.timeBase
     ∧ (addRead r s).date = s.date ∧ (addRead r s).supply = s.supply ∧ (addRead r s).part = s.part
     ∧ (addRead r s).lastCause = s.lastCause ∧ (addRead r s).supplyHeld = s.supplyHeld
     ∧ (addRead r s).lineHeld = s.lineHeld ∧ (addRead r s).queries = s.queries
     ∧ (addRead r s).incomplete = s.incomplete ∧ (addRead r s).writeHold = s.writeHold
     ∧ (addRead r s).passWrites = s.passWrites ∧ (addRead r s).linkOut = s.linkOut
     ∧ (addRead r s).chainOut = s.chainOut ∧ (addRead r s).opCount = s.opCount
     ∧ (addRead r s).freeCount = s.freeCount ∧ (addRead r s).pending = s.pending :=
  ⟨rfl, rfl, rfl, rfl, rfl, rfl, rfl, rfl, rfl, rfl, rfl, rfl, rfl, rfl, rfl, rfl, rfl, rfl, rfl, rfl,
   rfl, rfl, rfl, rfl, rfl, rfl, rfl, rfl, rfl, rfl, rfl, rfl, rfl, rfl, rfl, rfl, rfl, rfl, rfl, rfl,
   rfl, rfl, rfl, rfl, rfl, rfl, rfl, rfl, rfl, rfl⟩

@[simp] theorem addRead_writes (r : Read) (s : State) :
    (addRead r s).reads = s.reads ++ [r] :=
  rfl

@[simp] theorem endReads_keeps (o : Owner) (s : State) :
    (endReads o s).editions = s.editions ∧ (endReads o s).photos = s.photos
     ∧ (endReads o s).profiles = s.profiles ∧ (endReads o s).tariff = s.tariff
     ∧ (endReads o s).accounts = s.accounts ∧ (endReads o s).holders = s.holders
     ∧ (endReads o s).revenue = s.revenue ∧ (endReads o s).commitLimit = s.commitLimit
     ∧ (endReads o s).filter = s.filter ∧ (endReads o s).arm = s.arm ∧ (endReads o s).slots = s.slots
     ∧ (endReads o s).queue = s.queue ∧ (endReads o s).held2 = s.held2 ∧ (endReads o s).held3 = s.held3
     ∧ (endReads o s).free = s.free ∧ (endReads o s).staging = s.staging ∧ (endReads o s).tickets = s.tickets
     ∧ (endReads o s).nextTicket = s.nextTicket ∧ (endReads o s).jobs = s.jobs
     ∧ (endReads o s).nextJob = s.nextJob ∧ (endReads o s).engine = s.engine ∧ (endReads o s).orders = s.orders
     ∧ (endReads o s).nextOrder = s.nextOrder ∧ (endReads o s).slabWait = s.slabWait
     ∧ (endReads o s).restoreWait = s.restoreWait ∧ (endReads o s).notices = s.notices
     ∧ (endReads o s).queueFull = s.queueFull ∧ (endReads o s).halfArmed = s.halfArmed
     ∧ (endReads o s).attention = s.attention ∧ (endReads o s).receiver = s.receiver
     ∧ (endReads o s).inputBuffer = s.inputBuffer ∧ (endReads o s).outbound = s.outbound
     ∧ (endReads o s).linkResetDue = s.linkResetDue ∧ (endReads o s).timeBase = s.timeBase
     ∧ (endReads o s).date = s.date ∧ (endReads o s).supply = s.supply ∧ (endReads o s).part = s.part
     ∧ (endReads o s).lastCause = s.lastCause ∧ (endReads o s).supplyHeld = s.supplyHeld
     ∧ (endReads o s).lineHeld = s.lineHeld ∧ (endReads o s).queries = s.queries
     ∧ (endReads o s).incomplete = s.incomplete ∧ (endReads o s).writeHold = s.writeHold
     ∧ (endReads o s).passWrites = s.passWrites ∧ (endReads o s).linkOut = s.linkOut
     ∧ (endReads o s).chainOut = s.chainOut ∧ (endReads o s).opCount = s.opCount
     ∧ (endReads o s).freeCount = s.freeCount ∧ (endReads o s).pending = s.pending :=
  ⟨rfl, rfl, rfl, rfl, rfl, rfl, rfl, rfl, rfl, rfl, rfl, rfl, rfl, rfl, rfl, rfl, rfl, rfl, rfl, rfl,
   rfl, rfl, rfl, rfl, rfl, rfl, rfl, rfl, rfl, rfl, rfl, rfl, rfl, rfl, rfl, rfl, rfl, rfl, rfl, rfl,
   rfl, rfl, rfl, rfl, rfl, rfl, rfl, rfl, rfl⟩

@[simp] theorem endReads_writes (o : Owner) (s : State) :
    (endReads o s).reads = (s.reads.filter fun r => decide (r.owner ≠ o))
     ∧ (endReads o s).units = s.units.map (UnitRec.orphan o) :=
  ⟨rfl, rfl⟩

@[simp] theorem addUses_keeps (l : List Nat) (s : State) :
    (addUses l s).editions = s.editions ∧ (addUses l s).profiles = s.profiles ∧ (addUses l s).tariff = s.tariff
     ∧ (addUses l s).accounts = s.accounts ∧ (addUses l s).holders = s.holders
     ∧ (addUses l s).revenue = s.revenue ∧ (addUses l s).commitLimit = s.commitLimit
     ∧ (addUses l s).filter = s.filter ∧ (addUses l s).arm = s.arm ∧ (addUses l s).slots = s.slots
     ∧ (addUses l s).queue = s.queue ∧ (addUses l s).units = s.units ∧ (addUses l s).reads = s.reads
     ∧ (addUses l s).held2 = s.held2 ∧ (addUses l s).held3 = s.held3 ∧ (addUses l s).free = s.free
     ∧ (addUses l s).staging = s.staging ∧ (addUses l s).tickets = s.tickets
     ∧ (addUses l s).nextTicket = s.nextTicket ∧ (addUses l s).jobs = s.jobs ∧ (addUses l s).nextJob = s.nextJob
     ∧ (addUses l s).engine = s.engine ∧ (addUses l s).orders = s.orders ∧ (addUses l s).nextOrder = s.nextOrder
     ∧ (addUses l s).slabWait = s.slabWait ∧ (addUses l s).restoreWait = s.restoreWait
     ∧ (addUses l s).notices = s.notices ∧ (addUses l s).queueFull = s.queueFull
     ∧ (addUses l s).halfArmed = s.halfArmed ∧ (addUses l s).attention = s.attention
     ∧ (addUses l s).receiver = s.receiver ∧ (addUses l s).inputBuffer = s.inputBuffer
     ∧ (addUses l s).outbound = s.outbound ∧ (addUses l s).linkResetDue = s.linkResetDue
     ∧ (addUses l s).timeBase = s.timeBase ∧ (addUses l s).date = s.date ∧ (addUses l s).supply = s.supply
     ∧ (addUses l s).part = s.part ∧ (addUses l s).lastCause = s.lastCause
     ∧ (addUses l s).supplyHeld = s.supplyHeld ∧ (addUses l s).lineHeld = s.lineHeld
     ∧ (addUses l s).queries = s.queries ∧ (addUses l s).incomplete = s.incomplete
     ∧ (addUses l s).writeHold = s.writeHold ∧ (addUses l s).passWrites = s.passWrites
     ∧ (addUses l s).linkOut = s.linkOut ∧ (addUses l s).chainOut = s.chainOut
     ∧ (addUses l s).opCount = s.opCount ∧ (addUses l s).freeCount = s.freeCount
     ∧ (addUses l s).pending = s.pending :=
  ⟨rfl, rfl, rfl, rfl, rfl, rfl, rfl, rfl, rfl, rfl, rfl, rfl, rfl, rfl, rfl, rfl, rfl, rfl, rfl, rfl,
   rfl, rfl, rfl, rfl, rfl, rfl, rfl, rfl, rfl, rfl, rfl, rfl, rfl, rfl, rfl, rfl, rfl, rfl, rfl, rfl,
   rfl, rfl, rfl, rfl, rfl, rfl, rfl, rfl, rfl, rfl⟩

@[simp] theorem dropUses_keeps (l : List Nat) (s : State) :
    (dropUses l s).editions = s.editions ∧ (dropUses l s).profiles = s.profiles
     ∧ (dropUses l s).tariff = s.tariff ∧ (dropUses l s).accounts = s.accounts
     ∧ (dropUses l s).holders = s.holders ∧ (dropUses l s).revenue = s.revenue
     ∧ (dropUses l s).commitLimit = s.commitLimit ∧ (dropUses l s).filter = s.filter
     ∧ (dropUses l s).arm = s.arm ∧ (dropUses l s).slots = s.slots ∧ (dropUses l s).queue = s.queue
     ∧ (dropUses l s).units = s.units ∧ (dropUses l s).reads = s.reads ∧ (dropUses l s).held2 = s.held2
     ∧ (dropUses l s).held3 = s.held3 ∧ (dropUses l s).free = s.free ∧ (dropUses l s).staging = s.staging
     ∧ (dropUses l s).tickets = s.tickets ∧ (dropUses l s).nextTicket = s.nextTicket
     ∧ (dropUses l s).jobs = s.jobs ∧ (dropUses l s).nextJob = s.nextJob ∧ (dropUses l s).engine = s.engine
     ∧ (dropUses l s).orders = s.orders ∧ (dropUses l s).nextOrder = s.nextOrder
     ∧ (dropUses l s).slabWait = s.slabWait ∧ (dropUses l s).restoreWait = s.restoreWait
     ∧ (dropUses l s).notices = s.notices ∧ (dropUses l s).queueFull = s.queueFull
     ∧ (dropUses l s).halfArmed = s.halfArmed ∧ (dropUses l s).attention = s.attention
     ∧ (dropUses l s).receiver = s.receiver ∧ (dropUses l s).inputBuffer = s.inputBuffer
     ∧ (dropUses l s).outbound = s.outbound ∧ (dropUses l s).linkResetDue = s.linkResetDue
     ∧ (dropUses l s).timeBase = s.timeBase ∧ (dropUses l s).date = s.date ∧ (dropUses l s).supply = s.supply
     ∧ (dropUses l s).part = s.part ∧ (dropUses l s).lastCause = s.lastCause
     ∧ (dropUses l s).supplyHeld = s.supplyHeld ∧ (dropUses l s).lineHeld = s.lineHeld
     ∧ (dropUses l s).queries = s.queries ∧ (dropUses l s).incomplete = s.incomplete
     ∧ (dropUses l s).writeHold = s.writeHold ∧ (dropUses l s).passWrites = s.passWrites
     ∧ (dropUses l s).linkOut = s.linkOut ∧ (dropUses l s).chainOut = s.chainOut
     ∧ (dropUses l s).opCount = s.opCount ∧ (dropUses l s).freeCount = s.freeCount
     ∧ (dropUses l s).pending = s.pending :=
  ⟨rfl, rfl, rfl, rfl, rfl, rfl, rfl, rfl, rfl, rfl, rfl, rfl, rfl, rfl, rfl, rfl, rfl, rfl, rfl, rfl,
   rfl, rfl, rfl, rfl, rfl, rfl, rfl, rfl, rfl, rfl, rfl, rfl, rfl, rfl, rfl, rfl, rfl, rfl, rfl, rfl,
   rfl, rfl, rfl, rfl, rfl, rfl, rfl, rfl, rfl, rfl⟩

@[simp] theorem setSlot_keeps (k : Nat) (x : Option Slot) (s : State) :
    (setSlot k x s).editions = s.editions ∧ (setSlot k x s).photos = s.photos
     ∧ (setSlot k x s).profiles = s.profiles ∧ (setSlot k x s).tariff = s.tariff
     ∧ (setSlot k x s).accounts = s.accounts ∧ (setSlot k x s).holders = s.holders
     ∧ (setSlot k x s).revenue = s.revenue ∧ (setSlot k x s).commitLimit = s.commitLimit
     ∧ (setSlot k x s).filter = s.filter ∧ (setSlot k x s).arm = s.arm ∧ (setSlot k x s).queue = s.queue
     ∧ (setSlot k x s).units = s.units ∧ (setSlot k x s).reads = s.reads ∧ (setSlot k x s).held2 = s.held2
     ∧ (setSlot k x s).held3 = s.held3 ∧ (setSlot k x s).free = s.free ∧ (setSlot k x s).staging = s.staging
     ∧ (setSlot k x s).tickets = s.tickets ∧ (setSlot k x s).nextTicket = s.nextTicket
     ∧ (setSlot k x s).jobs = s.jobs ∧ (setSlot k x s).nextJob = s.nextJob ∧ (setSlot k x s).engine = s.engine
     ∧ (setSlot k x s).orders = s.orders ∧ (setSlot k x s).nextOrder = s.nextOrder
     ∧ (setSlot k x s).slabWait = s.slabWait ∧ (setSlot k x s).restoreWait = s.restoreWait
     ∧ (setSlot k x s).notices = s.notices ∧ (setSlot k x s).queueFull = s.queueFull
     ∧ (setSlot k x s).halfArmed = s.halfArmed ∧ (setSlot k x s).attention = s.attention
     ∧ (setSlot k x s).receiver = s.receiver ∧ (setSlot k x s).inputBuffer = s.inputBuffer
     ∧ (setSlot k x s).outbound = s.outbound ∧ (setSlot k x s).linkResetDue = s.linkResetDue
     ∧ (setSlot k x s).timeBase = s.timeBase ∧ (setSlot k x s).date = s.date ∧ (setSlot k x s).supply = s.supply
     ∧ (setSlot k x s).part = s.part ∧ (setSlot k x s).lastCause = s.lastCause
     ∧ (setSlot k x s).supplyHeld = s.supplyHeld ∧ (setSlot k x s).lineHeld = s.lineHeld
     ∧ (setSlot k x s).queries = s.queries ∧ (setSlot k x s).incomplete = s.incomplete
     ∧ (setSlot k x s).writeHold = s.writeHold ∧ (setSlot k x s).passWrites = s.passWrites
     ∧ (setSlot k x s).linkOut = s.linkOut ∧ (setSlot k x s).chainOut = s.chainOut
     ∧ (setSlot k x s).opCount = s.opCount ∧ (setSlot k x s).freeCount = s.freeCount
     ∧ (setSlot k x s).pending = s.pending :=
  ⟨rfl, rfl, rfl, rfl, rfl, rfl, rfl, rfl, rfl, rfl, rfl, rfl, rfl, rfl, rfl, rfl, rfl, rfl, rfl, rfl,
   rfl, rfl, rfl, rfl, rfl, rfl, rfl, rfl, rfl, rfl, rfl, rfl, rfl, rfl, rfl, rfl, rfl, rfl, rfl, rfl,
   rfl, rfl, rfl, rfl, rfl, rfl, rfl, rfl, rfl, rfl⟩

@[simp] theorem setSlot_writes (k : Nat) (x : Option Slot) (s : State) :
    (setSlot k x s).slots = s.slots.set k x :=
  rfl

@[simp] theorem modifyEdition_keeps (d i : Nat) (g : Edition → Edition) (s : State) :
    (modifyEdition d i g s).photos = s.photos ∧ (modifyEdition d i g s).profiles = s.profiles
     ∧ (modifyEdition d i g s).tariff = s.tariff ∧ (modifyEdition d i g s).accounts = s.accounts
     ∧ (modifyEdition d i g s).holders = s.holders ∧ (modifyEdition d i g s).revenue = s.revenue
     ∧ (modifyEdition d i g s).commitLimit = s.commitLimit ∧ (modifyEdition d i g s).filter = s.filter
     ∧ (modifyEdition d i g s).arm = s.arm ∧ (modifyEdition d i g s).slots = s.slots
     ∧ (modifyEdition d i g s).queue = s.queue ∧ (modifyEdition d i g s).units = s.units
     ∧ (modifyEdition d i g s).reads = s.reads ∧ (modifyEdition d i g s).held2 = s.held2
     ∧ (modifyEdition d i g s).held3 = s.held3 ∧ (modifyEdition d i g s).free = s.free
     ∧ (modifyEdition d i g s).staging = s.staging ∧ (modifyEdition d i g s).tickets = s.tickets
     ∧ (modifyEdition d i g s).nextTicket = s.nextTicket ∧ (modifyEdition d i g s).jobs = s.jobs
     ∧ (modifyEdition d i g s).nextJob = s.nextJob ∧ (modifyEdition d i g s).engine = s.engine
     ∧ (modifyEdition d i g s).orders = s.orders ∧ (modifyEdition d i g s).nextOrder = s.nextOrder
     ∧ (modifyEdition d i g s).slabWait = s.slabWait ∧ (modifyEdition d i g s).restoreWait = s.restoreWait
     ∧ (modifyEdition d i g s).notices = s.notices ∧ (modifyEdition d i g s).queueFull = s.queueFull
     ∧ (modifyEdition d i g s).halfArmed = s.halfArmed ∧ (modifyEdition d i g s).attention = s.attention
     ∧ (modifyEdition d i g s).receiver = s.receiver ∧ (modifyEdition d i g s).inputBuffer = s.inputBuffer
     ∧ (modifyEdition d i g s).outbound = s.outbound ∧ (modifyEdition d i g s).linkResetDue = s.linkResetDue
     ∧ (modifyEdition d i g s).timeBase = s.timeBase ∧ (modifyEdition d i g s).date = s.date
     ∧ (modifyEdition d i g s).supply = s.supply ∧ (modifyEdition d i g s).part = s.part
     ∧ (modifyEdition d i g s).lastCause = s.lastCause ∧ (modifyEdition d i g s).supplyHeld = s.supplyHeld
     ∧ (modifyEdition d i g s).lineHeld = s.lineHeld ∧ (modifyEdition d i g s).queries = s.queries
     ∧ (modifyEdition d i g s).incomplete = s.incomplete ∧ (modifyEdition d i g s).writeHold = s.writeHold
     ∧ (modifyEdition d i g s).passWrites = s.passWrites ∧ (modifyEdition d i g s).linkOut = s.linkOut
     ∧ (modifyEdition d i g s).chainOut = s.chainOut ∧ (modifyEdition d i g s).opCount = s.opCount
     ∧ (modifyEdition d i g s).freeCount = s.freeCount ∧ (modifyEdition d i g s).pending = s.pending :=
  ⟨rfl, rfl, rfl, rfl, rfl, rfl, rfl, rfl, rfl, rfl, rfl, rfl, rfl, rfl, rfl, rfl, rfl, rfl, rfl, rfl,
   rfl, rfl, rfl, rfl, rfl, rfl, rfl, rfl, rfl, rfl, rfl, rfl, rfl, rfl, rfl, rfl, rfl, rfl, rfl, rfl,
   rfl, rfl, rfl, rfl, rfl, rfl, rfl, rfl, rfl, rfl⟩

@[simp] theorem modifyEdition_writes (d i : Nat) (g : Edition → Edition) (s : State) :
    (modifyEdition d i g s).editions = (s.editions.map fun e => if e.hasKey d i then g e else e) :=
  rfl

@[simp] theorem modifyPlate_keeps (r : PlateRef) (g : Plate → Plate) (s : State) :
    (modifyPlate r g s).photos = s.photos ∧ (modifyPlate r g s).profiles = s.profiles
     ∧ (modifyPlate r g s).tariff = s.tariff ∧ (modifyPlate r g s).accounts = s.accounts
     ∧ (modifyPlate r g s).holders = s.holders ∧ (modifyPlate r g s).revenue = s.revenue
     ∧ (modifyPlate r g s).commitLimit = s.commitLimit ∧ (modifyPlate r g s).filter = s.filter
     ∧ (modifyPlate r g s).arm = s.arm ∧ (modifyPlate r g s).slots = s.slots
     ∧ (modifyPlate r g s).queue = s.queue ∧ (modifyPlate r g s).units = s.units
     ∧ (modifyPlate r g s).reads = s.reads ∧ (modifyPlate r g s).held2 = s.held2
     ∧ (modifyPlate r g s).held3 = s.held3 ∧ (modifyPlate r g s).free = s.free
     ∧ (modifyPlate r g s).staging = s.staging ∧ (modifyPlate r g s).tickets = s.tickets
     ∧ (modifyPlate r g s).nextTicket = s.nextTicket ∧ (modifyPlate r g s).jobs = s.jobs
     ∧ (modifyPlate r g s).nextJob = s.nextJob ∧ (modifyPlate r g s).engine = s.engine
     ∧ (modifyPlate r g s).orders = s.orders ∧ (modifyPlate r g s).nextOrder = s.nextOrder
     ∧ (modifyPlate r g s).slabWait = s.slabWait ∧ (modifyPlate r g s).restoreWait = s.restoreWait
     ∧ (modifyPlate r g s).notices = s.notices ∧ (modifyPlate r g s).queueFull = s.queueFull
     ∧ (modifyPlate r g s).halfArmed = s.halfArmed ∧ (modifyPlate r g s).attention = s.attention
     ∧ (modifyPlate r g s).receiver = s.receiver ∧ (modifyPlate r g s).inputBuffer = s.inputBuffer
     ∧ (modifyPlate r g s).outbound = s.outbound ∧ (modifyPlate r g s).linkResetDue = s.linkResetDue
     ∧ (modifyPlate r g s).timeBase = s.timeBase ∧ (modifyPlate r g s).date = s.date
     ∧ (modifyPlate r g s).supply = s.supply ∧ (modifyPlate r g s).part = s.part
     ∧ (modifyPlate r g s).lastCause = s.lastCause ∧ (modifyPlate r g s).supplyHeld = s.supplyHeld
     ∧ (modifyPlate r g s).lineHeld = s.lineHeld ∧ (modifyPlate r g s).queries = s.queries
     ∧ (modifyPlate r g s).incomplete = s.incomplete ∧ (modifyPlate r g s).writeHold = s.writeHold
     ∧ (modifyPlate r g s).passWrites = s.passWrites ∧ (modifyPlate r g s).linkOut = s.linkOut
     ∧ (modifyPlate r g s).chainOut = s.chainOut ∧ (modifyPlate r g s).opCount = s.opCount
     ∧ (modifyPlate r g s).freeCount = s.freeCount ∧ (modifyPlate r g s).pending = s.pending :=
  ⟨rfl, rfl, rfl, rfl, rfl, rfl, rfl, rfl, rfl, rfl, rfl, rfl, rfl, rfl, rfl, rfl, rfl, rfl, rfl, rfl,
   rfl, rfl, rfl, rfl, rfl, rfl, rfl, rfl, rfl, rfl, rfl, rfl, rfl, rfl, rfl, rfl, rfl, rfl, rfl, rfl,
   rfl, rfl, rfl, rfl, rfl, rfl, rfl, rfl, rfl, rfl⟩

@[simp] theorem modifyPhoto_keeps (n : Nat) (g : Photo → Photo) (s : State) :
    (modifyPhoto n g s).editions = s.editions ∧ (modifyPhoto n g s).profiles = s.profiles
     ∧ (modifyPhoto n g s).tariff = s.tariff ∧ (modifyPhoto n g s).accounts = s.accounts
     ∧ (modifyPhoto n g s).holders = s.holders ∧ (modifyPhoto n g s).revenue = s.revenue
     ∧ (modifyPhoto n g s).commitLimit = s.commitLimit ∧ (modifyPhoto n g s).filter = s.filter
     ∧ (modifyPhoto n g s).arm = s.arm ∧ (modifyPhoto n g s).slots = s.slots
     ∧ (modifyPhoto n g s).queue = s.queue ∧ (modifyPhoto n g s).units = s.units
     ∧ (modifyPhoto n g s).reads = s.reads ∧ (modifyPhoto n g s).held2 = s.held2
     ∧ (modifyPhoto n g s).held3 = s.held3 ∧ (modifyPhoto n g s).free = s.free
     ∧ (modifyPhoto n g s).staging = s.staging ∧ (modifyPhoto n g s).tickets = s.tickets
     ∧ (modifyPhoto n g s).nextTicket = s.nextTicket ∧ (modifyPhoto n g s).jobs = s.jobs
     ∧ (modifyPhoto n g s).nextJob = s.nextJob ∧ (modifyPhoto n g s).engine = s.engine
     ∧ (modifyPhoto n g s).orders = s.orders ∧ (modifyPhoto n g s).nextOrder = s.nextOrder
     ∧ (modifyPhoto n g s).slabWait = s.slabWait ∧ (modifyPhoto n g s).restoreWait = s.restoreWait
     ∧ (modifyPhoto n g s).notices = s.notices ∧ (modifyPhoto n g s).queueFull = s.queueFull
     ∧ (modifyPhoto n g s).halfArmed = s.halfArmed ∧ (modifyPhoto n g s).attention = s.attention
     ∧ (modifyPhoto n g s).receiver = s.receiver ∧ (modifyPhoto n g s).inputBuffer = s.inputBuffer
     ∧ (modifyPhoto n g s).outbound = s.outbound ∧ (modifyPhoto n g s).linkResetDue = s.linkResetDue
     ∧ (modifyPhoto n g s).timeBase = s.timeBase ∧ (modifyPhoto n g s).date = s.date
     ∧ (modifyPhoto n g s).supply = s.supply ∧ (modifyPhoto n g s).part = s.part
     ∧ (modifyPhoto n g s).lastCause = s.lastCause ∧ (modifyPhoto n g s).supplyHeld = s.supplyHeld
     ∧ (modifyPhoto n g s).lineHeld = s.lineHeld ∧ (modifyPhoto n g s).queries = s.queries
     ∧ (modifyPhoto n g s).incomplete = s.incomplete ∧ (modifyPhoto n g s).writeHold = s.writeHold
     ∧ (modifyPhoto n g s).passWrites = s.passWrites ∧ (modifyPhoto n g s).linkOut = s.linkOut
     ∧ (modifyPhoto n g s).chainOut = s.chainOut ∧ (modifyPhoto n g s).opCount = s.opCount
     ∧ (modifyPhoto n g s).freeCount = s.freeCount ∧ (modifyPhoto n g s).pending = s.pending :=
  ⟨rfl, rfl, rfl, rfl, rfl, rfl, rfl, rfl, rfl, rfl, rfl, rfl, rfl, rfl, rfl, rfl, rfl, rfl, rfl, rfl,
   rfl, rfl, rfl, rfl, rfl, rfl, rfl, rfl, rfl, rfl, rfl, rfl, rfl, rfl, rfl, rfl, rfl, rfl, rfl, rfl,
   rfl, rfl, rfl, rfl, rfl, rfl, rfl, rfl, rfl, rfl⟩

@[simp] theorem modifyPhoto_writes (n : Nat) (g : Photo → Photo) (s : State) :
    (modifyPhoto n g s).photos = (s.photos.map fun p => if p.number = n then g p else p) :=
  rfl

@[simp] theorem modifyAccount_keeps (n : Nat) (g : Account → Account) (s : State) :
    (modifyAccount n g s).editions = s.editions ∧ (modifyAccount n g s).photos = s.photos
     ∧ (modifyAccount n g s).profiles = s.profiles ∧ (modifyAccount n g s).tariff = s.tariff
     ∧ (modifyAccount n g s).holders = s.holders ∧ (modifyAccount n g s).revenue = s.revenue
     ∧ (modifyAccount n g s).commitLimit = s.commitLimit ∧ (modifyAccount n g s).filter = s.filter
     ∧ (modifyAccount n g s).arm = s.arm ∧ (modifyAccount n g s).slots = s.slots
     ∧ (modifyAccount n g s).queue = s.queue ∧ (modifyAccount n g s).units = s.units
     ∧ (modifyAccount n g s).reads = s.reads ∧ (modifyAccount n g s).held2 = s.held2
     ∧ (modifyAccount n g s).held3 = s.held3 ∧ (modifyAccount n g s).free = s.free
     ∧ (modifyAccount n g s).staging = s.staging ∧ (modifyAccount n g s).tickets = s.tickets
     ∧ (modifyAccount n g s).nextTicket = s.nextTicket ∧ (modifyAccount n g s).jobs = s.jobs
     ∧ (modifyAccount n g s).nextJob = s.nextJob ∧ (modifyAccount n g s).engine = s.engine
     ∧ (modifyAccount n g s).orders = s.orders ∧ (modifyAccount n g s).nextOrder = s.nextOrder
     ∧ (modifyAccount n g s).slabWait = s.slabWait ∧ (modifyAccount n g s).restoreWait = s.restoreWait
     ∧ (modifyAccount n g s).notices = s.notices ∧ (modifyAccount n g s).queueFull = s.queueFull
     ∧ (modifyAccount n g s).halfArmed = s.halfArmed ∧ (modifyAccount n g s).attention = s.attention
     ∧ (modifyAccount n g s).receiver = s.receiver ∧ (modifyAccount n g s).inputBuffer = s.inputBuffer
     ∧ (modifyAccount n g s).outbound = s.outbound ∧ (modifyAccount n g s).linkResetDue = s.linkResetDue
     ∧ (modifyAccount n g s).timeBase = s.timeBase ∧ (modifyAccount n g s).date = s.date
     ∧ (modifyAccount n g s).supply = s.supply ∧ (modifyAccount n g s).part = s.part
     ∧ (modifyAccount n g s).lastCause = s.lastCause ∧ (modifyAccount n g s).supplyHeld = s.supplyHeld
     ∧ (modifyAccount n g s).lineHeld = s.lineHeld ∧ (modifyAccount n g s).queries = s.queries
     ∧ (modifyAccount n g s).incomplete = s.incomplete ∧ (modifyAccount n g s).writeHold = s.writeHold
     ∧ (modifyAccount n g s).passWrites = s.passWrites ∧ (modifyAccount n g s).linkOut = s.linkOut
     ∧ (modifyAccount n g s).chainOut = s.chainOut ∧ (modifyAccount n g s).opCount = s.opCount
     ∧ (modifyAccount n g s).freeCount = s.freeCount ∧ (modifyAccount n g s).pending = s.pending :=
  ⟨rfl, rfl, rfl, rfl, rfl, rfl, rfl, rfl, rfl, rfl, rfl, rfl, rfl, rfl, rfl, rfl, rfl, rfl, rfl, rfl,
   rfl, rfl, rfl, rfl, rfl, rfl, rfl, rfl, rfl, rfl, rfl, rfl, rfl, rfl, rfl, rfl, rfl, rfl, rfl, rfl,
   rfl, rfl, rfl, rfl, rfl, rfl, rfl, rfl, rfl, rfl⟩

@[simp] theorem modifyAccount_writes (n : Nat) (g : Account → Account) (s : State) :
    (modifyAccount n g s).accounts = (s.accounts.map fun a => if a.number = n then g a else a) :=
  rfl

@[simp] theorem modifyOrder_keeps (n : Nat) (g : OrderRec → OrderRec) (s : State) :
    (modifyOrder n g s).editions = s.editions ∧ (modifyOrder n g s).photos = s.photos
     ∧ (modifyOrder n g s).profiles = s.profiles ∧ (modifyOrder n g s).tariff = s.tariff
     ∧ (modifyOrder n g s).accounts = s.accounts ∧ (modifyOrder n g s).holders = s.holders
     ∧ (modifyOrder n g s).revenue = s.revenue ∧ (modifyOrder n g s).commitLimit = s.commitLimit
     ∧ (modifyOrder n g s).filter = s.filter ∧ (modifyOrder n g s).arm = s.arm
     ∧ (modifyOrder n g s).slots = s.slots ∧ (modifyOrder n g s).queue = s.queue
     ∧ (modifyOrder n g s).units = s.units ∧ (modifyOrder n g s).reads = s.reads
     ∧ (modifyOrder n g s).held2 = s.held2 ∧ (modifyOrder n g s).held3 = s.held3
     ∧ (modifyOrder n g s).free = s.free ∧ (modifyOrder n g s).staging = s.staging
     ∧ (modifyOrder n g s).tickets = s.tickets ∧ (modifyOrder n g s).nextTicket = s.nextTicket
     ∧ (modifyOrder n g s).jobs = s.jobs ∧ (modifyOrder n g s).nextJob = s.nextJob
     ∧ (modifyOrder n g s).engine = s.engine ∧ (modifyOrder n g s).nextOrder = s.nextOrder
     ∧ (modifyOrder n g s).slabWait = s.slabWait ∧ (modifyOrder n g s).restoreWait = s.restoreWait
     ∧ (modifyOrder n g s).notices = s.notices ∧ (modifyOrder n g s).queueFull = s.queueFull
     ∧ (modifyOrder n g s).halfArmed = s.halfArmed ∧ (modifyOrder n g s).attention = s.attention
     ∧ (modifyOrder n g s).receiver = s.receiver ∧ (modifyOrder n g s).inputBuffer = s.inputBuffer
     ∧ (modifyOrder n g s).outbound = s.outbound ∧ (modifyOrder n g s).linkResetDue = s.linkResetDue
     ∧ (modifyOrder n g s).timeBase = s.timeBase ∧ (modifyOrder n g s).date = s.date
     ∧ (modifyOrder n g s).supply = s.supply ∧ (modifyOrder n g s).part = s.part
     ∧ (modifyOrder n g s).lastCause = s.lastCause ∧ (modifyOrder n g s).supplyHeld = s.supplyHeld
     ∧ (modifyOrder n g s).lineHeld = s.lineHeld ∧ (modifyOrder n g s).queries = s.queries
     ∧ (modifyOrder n g s).incomplete = s.incomplete ∧ (modifyOrder n g s).writeHold = s.writeHold
     ∧ (modifyOrder n g s).passWrites = s.passWrites ∧ (modifyOrder n g s).linkOut = s.linkOut
     ∧ (modifyOrder n g s).chainOut = s.chainOut ∧ (modifyOrder n g s).opCount = s.opCount
     ∧ (modifyOrder n g s).freeCount = s.freeCount ∧ (modifyOrder n g s).pending = s.pending :=
  ⟨rfl, rfl, rfl, rfl, rfl, rfl, rfl, rfl, rfl, rfl, rfl, rfl, rfl, rfl, rfl, rfl, rfl, rfl, rfl, rfl,
   rfl, rfl, rfl, rfl, rfl, rfl, rfl, rfl, rfl, rfl, rfl, rfl, rfl, rfl, rfl, rfl, rfl, rfl, rfl, rfl,
   rfl, rfl, rfl, rfl, rfl, rfl, rfl, rfl, rfl, rfl⟩

@[simp] theorem modifyOrder_writes (n : Nat) (g : OrderRec → OrderRec) (s : State) :
    (modifyOrder n g s).orders = (s.orders.map fun x => if x.number = n then g x else x) :=
  rfl

@[simp] theorem modifyItem_keeps (o i : Nat) (g : ItemRec → ItemRec) (s : State) :
    (modifyItem o i g s).editions = s.editions ∧ (modifyItem o i g s).photos = s.photos
     ∧ (modifyItem o i g s).profiles = s.profiles ∧ (modifyItem o i g s).tariff = s.tariff
     ∧ (modifyItem o i g s).accounts = s.accounts ∧ (modifyItem o i g s).holders = s.holders
     ∧ (modifyItem o i g s).revenue = s.revenue ∧ (modifyItem o i g s).commitLimit = s.commitLimit
     ∧ (modifyItem o i g s).filter = s.filter ∧ (modifyItem o i g s).arm = s.arm
     ∧ (modifyItem o i g s).slots = s.slots ∧ (modifyItem o i g s).queue = s.queue
     ∧ (modifyItem o i g s).units = s.units ∧ (modifyItem o i g s).reads = s.reads
     ∧ (modifyItem o i g s).held2 = s.held2 ∧ (modifyItem o i g s).held3 = s.held3
     ∧ (modifyItem o i g s).free = s.free ∧ (modifyItem o i g s).staging = s.staging
     ∧ (modifyItem o i g s).tickets = s.tickets ∧ (modifyItem o i g s).nextTicket = s.nextTicket
     ∧ (modifyItem o i g s).jobs = s.jobs ∧ (modifyItem o i g s).nextJob = s.nextJob
     ∧ (modifyItem o i g s).engine = s.engine ∧ (modifyItem o i g s).nextOrder = s.nextOrder
     ∧ (modifyItem o i g s).slabWait = s.slabWait ∧ (modifyItem o i g s).restoreWait = s.restoreWait
     ∧ (modifyItem o i g s).notices = s.notices ∧ (modifyItem o i g s).queueFull = s.queueFull
     ∧ (modifyItem o i g s).halfArmed = s.halfArmed ∧ (modifyItem o i g s).attention = s.attention
     ∧ (modifyItem o i g s).receiver = s.receiver ∧ (modifyItem o i g s).inputBuffer = s.inputBuffer
     ∧ (modifyItem o i g s).outbound = s.outbound ∧ (modifyItem o i g s).linkResetDue = s.linkResetDue
     ∧ (modifyItem o i g s).timeBase = s.timeBase ∧ (modifyItem o i g s).date = s.date
     ∧ (modifyItem o i g s).supply = s.supply ∧ (modifyItem o i g s).part = s.part
     ∧ (modifyItem o i g s).lastCause = s.lastCause ∧ (modifyItem o i g s).supplyHeld = s.supplyHeld
     ∧ (modifyItem o i g s).lineHeld = s.lineHeld ∧ (modifyItem o i g s).queries = s.queries
     ∧ (modifyItem o i g s).incomplete = s.incomplete ∧ (modifyItem o i g s).writeHold = s.writeHold
     ∧ (modifyItem o i g s).passWrites = s.passWrites ∧ (modifyItem o i g s).linkOut = s.linkOut
     ∧ (modifyItem o i g s).chainOut = s.chainOut ∧ (modifyItem o i g s).opCount = s.opCount
     ∧ (modifyItem o i g s).freeCount = s.freeCount ∧ (modifyItem o i g s).pending = s.pending :=
  ⟨rfl, rfl, rfl, rfl, rfl, rfl, rfl, rfl, rfl, rfl, rfl, rfl, rfl, rfl, rfl, rfl, rfl, rfl, rfl, rfl,
   rfl, rfl, rfl, rfl, rfl, rfl, rfl, rfl, rfl, rfl, rfl, rfl, rfl, rfl, rfl, rfl, rfl, rfl, rfl, rfl,
   rfl, rfl, rfl, rfl, rfl, rfl, rfl, rfl, rfl, rfl⟩

@[simp] theorem modifyJob_keeps (n : Nat) (g : Job → Job) (s : State) :
    (modifyJob n g s).editions = s.editions ∧ (modifyJob n g s).photos = s.photos
     ∧ (modifyJob n g s).profiles = s.profiles ∧ (modifyJob n g s).tariff = s.tariff
     ∧ (modifyJob n g s).accounts = s.accounts ∧ (modifyJob n g s).holders = s.holders
     ∧ (modifyJob n g s).revenue = s.revenue ∧ (modifyJob n g s).commitLimit = s.commitLimit
     ∧ (modifyJob n g s).filter = s.filter ∧ (modifyJob n g s).arm = s.arm ∧ (modifyJob n g s).slots = s.slots
     ∧ (modifyJob n g s).queue = s.queue ∧ (modifyJob n g s).units = s.units ∧ (modifyJob n g s).reads = s.reads
     ∧ (modifyJob n g s).held2 = s.held2 ∧ (modifyJob n g s).held3 = s.held3 ∧ (modifyJob n g s).free = s.free
     ∧ (modifyJob n g s).staging = s.staging ∧ (modifyJob n g s).tickets = s.tickets
     ∧ (modifyJob n g s).nextTicket = s.nextTicket ∧ (modifyJob n g s).nextJob = s.nextJob
     ∧ (modifyJob n g s).engine = s.engine ∧ (modifyJob n g s).orders = s.orders
     ∧ (modifyJob n g s).nextOrder = s.nextOrder ∧ (modifyJob n g s).slabWait = s.slabWait
     ∧ (modifyJob n g s).restoreWait = s.restoreWait ∧ (modifyJob n g s).notices = s.notices
     ∧ (modifyJob n g s).queueFull = s.queueFull ∧ (modifyJob n g s).halfArmed = s.halfArmed
     ∧ (modifyJob n g s).attention = s.attention ∧ (modifyJob n g s).receiver = s.receiver
     ∧ (modifyJob n g s).inputBuffer = s.inputBuffer ∧ (modifyJob n g s).outbound = s.outbound
     ∧ (modifyJob n g s).linkResetDue = s.linkResetDue ∧ (modifyJob n g s).timeBase = s.timeBase
     ∧ (modifyJob n g s).date = s.date ∧ (modifyJob n g s).supply = s.supply ∧ (modifyJob n g s).part = s.part
     ∧ (modifyJob n g s).lastCause = s.lastCause ∧ (modifyJob n g s).supplyHeld = s.supplyHeld
     ∧ (modifyJob n g s).lineHeld = s.lineHeld ∧ (modifyJob n g s).queries = s.queries
     ∧ (modifyJob n g s).incomplete = s.incomplete ∧ (modifyJob n g s).writeHold = s.writeHold
     ∧ (modifyJob n g s).passWrites = s.passWrites ∧ (modifyJob n g s).linkOut = s.linkOut
     ∧ (modifyJob n g s).chainOut = s.chainOut ∧ (modifyJob n g s).opCount = s.opCount
     ∧ (modifyJob n g s).freeCount = s.freeCount ∧ (modifyJob n g s).pending = s.pending :=
  ⟨rfl, rfl, rfl, rfl, rfl, rfl, rfl, rfl, rfl, rfl, rfl, rfl, rfl, rfl, rfl, rfl, rfl, rfl, rfl, rfl,
   rfl, rfl, rfl, rfl, rfl, rfl, rfl, rfl, rfl, rfl, rfl, rfl, rfl, rfl, rfl, rfl, rfl, rfl, rfl, rfl,
   rfl, rfl, rfl, rfl, rfl, rfl, rfl, rfl, rfl, rfl⟩

@[simp] theorem modifyJob_writes (n : Nat) (g : Job → Job) (s : State) :
    (modifyJob n g s).jobs = (s.jobs.map fun j => if j.number = n then g j else j) :=
  rfl

@[simp] theorem modifyTicket_keeps (n : Nat) (g : Ticket → Ticket) (s : State) :
    (modifyTicket n g s).editions = s.editions ∧ (modifyTicket n g s).photos = s.photos
     ∧ (modifyTicket n g s).profiles = s.profiles ∧ (modifyTicket n g s).tariff = s.tariff
     ∧ (modifyTicket n g s).accounts = s.accounts ∧ (modifyTicket n g s).holders = s.holders
     ∧ (modifyTicket n g s).revenue = s.revenue ∧ (modifyTicket n g s).commitLimit = s.commitLimit
     ∧ (modifyTicket n g s).filter = s.filter ∧ (modifyTicket n g s).arm = s.arm
     ∧ (modifyTicket n g s).slots = s.slots ∧ (modifyTicket n g s).queue = s.queue
     ∧ (modifyTicket n g s).units = s.units ∧ (modifyTicket n g s).reads = s.reads
     ∧ (modifyTicket n g s).held2 = s.held2 ∧ (modifyTicket n g s).held3 = s.held3
     ∧ (modifyTicket n g s).free = s.free ∧ (modifyTicket n g s).staging = s.staging
     ∧ (modifyTicket n g s).nextTicket = s.nextTicket ∧ (modifyTicket n g s).jobs = s.jobs
     ∧ (modifyTicket n g s).nextJob = s.nextJob ∧ (modifyTicket n g s).engine = s.engine
     ∧ (modifyTicket n g s).orders = s.orders ∧ (modifyTicket n g s).nextOrder = s.nextOrder
     ∧ (modifyTicket n g s).slabWait = s.slabWait ∧ (modifyTicket n g s).restoreWait = s.restoreWait
     ∧ (modifyTicket n g s).notices = s.notices ∧ (modifyTicket n g s).queueFull = s.queueFull
     ∧ (modifyTicket n g s).halfArmed = s.halfArmed ∧ (modifyTicket n g s).attention = s.attention
     ∧ (modifyTicket n g s).receiver = s.receiver ∧ (modifyTicket n g s).inputBuffer = s.inputBuffer
     ∧ (modifyTicket n g s).outbound = s.outbound ∧ (modifyTicket n g s).linkResetDue = s.linkResetDue
     ∧ (modifyTicket n g s).timeBase = s.timeBase ∧ (modifyTicket n g s).date = s.date
     ∧ (modifyTicket n g s).supply = s.supply ∧ (modifyTicket n g s).part = s.part
     ∧ (modifyTicket n g s).lastCause = s.lastCause ∧ (modifyTicket n g s).supplyHeld = s.supplyHeld
     ∧ (modifyTicket n g s).lineHeld = s.lineHeld ∧ (modifyTicket n g s).queries = s.queries
     ∧ (modifyTicket n g s).incomplete = s.incomplete ∧ (modifyTicket n g s).writeHold = s.writeHold
     ∧ (modifyTicket n g s).passWrites = s.passWrites ∧ (modifyTicket n g s).linkOut = s.linkOut
     ∧ (modifyTicket n g s).chainOut = s.chainOut ∧ (modifyTicket n g s).opCount = s.opCount
     ∧ (modifyTicket n g s).freeCount = s.freeCount ∧ (modifyTicket n g s).pending = s.pending :=
  ⟨rfl, rfl, rfl, rfl, rfl, rfl, rfl, rfl, rfl, rfl, rfl, rfl, rfl, rfl, rfl, rfl, rfl, rfl, rfl, rfl,
   rfl, rfl, rfl, rfl, rfl, rfl, rfl, rfl, rfl, rfl, rfl, rfl, rfl, rfl, rfl, rfl, rfl, rfl, rfl, rfl,
   rfl, rfl, rfl, rfl, rfl, rfl, rfl, rfl, rfl, rfl⟩

@[simp] theorem modifyTicket_writes (n : Nat) (g : Ticket → Ticket) (s : State) :
    (modifyTicket n g s).tickets = (s.tickets.map fun t => if t.number = n then g t else t) :=
  rfl

@[simp] theorem modifyEntry_keeps (x : EntrySubject) (g : Entry → Entry) (s : State) :
    (modifyEntry x g s).editions = s.editions ∧ (modifyEntry x g s).photos = s.photos
     ∧ (modifyEntry x g s).profiles = s.profiles ∧ (modifyEntry x g s).tariff = s.tariff
     ∧ (modifyEntry x g s).accounts = s.accounts ∧ (modifyEntry x g s).holders = s.holders
     ∧ (modifyEntry x g s).revenue = s.revenue ∧ (modifyEntry x g s).commitLimit = s.commitLimit
     ∧ (modifyEntry x g s).filter = s.filter ∧ (modifyEntry x g s).arm = s.arm
     ∧ (modifyEntry x g s).slots = s.slots ∧ (modifyEntry x g s).units = s.units
     ∧ (modifyEntry x g s).reads = s.reads ∧ (modifyEntry x g s).held2 = s.held2
     ∧ (modifyEntry x g s).held3 = s.held3 ∧ (modifyEntry x g s).free = s.free
     ∧ (modifyEntry x g s).staging = s.staging ∧ (modifyEntry x g s).tickets = s.tickets
     ∧ (modifyEntry x g s).nextTicket = s.nextTicket ∧ (modifyEntry x g s).jobs = s.jobs
     ∧ (modifyEntry x g s).nextJob = s.nextJob ∧ (modifyEntry x g s).engine = s.engine
     ∧ (modifyEntry x g s).orders = s.orders ∧ (modifyEntry x g s).nextOrder = s.nextOrder
     ∧ (modifyEntry x g s).slabWait = s.slabWait ∧ (modifyEntry x g s).restoreWait = s.restoreWait
     ∧ (modifyEntry x g s).notices = s.notices ∧ (modifyEntry x g s).queueFull = s.queueFull
     ∧ (modifyEntry x g s).halfArmed = s.halfArmed ∧ (modifyEntry x g s).attention = s.attention
     ∧ (modifyEntry x g s).receiver = s.receiver ∧ (modifyEntry x g s).inputBuffer = s.inputBuffer
     ∧ (modifyEntry x g s).outbound = s.outbound ∧ (modifyEntry x g s).linkResetDue = s.linkResetDue
     ∧ (modifyEntry x g s).timeBase = s.timeBase ∧ (modifyEntry x g s).date = s.date
     ∧ (modifyEntry x g s).supply = s.supply ∧ (modifyEntry x g s).part = s.part
     ∧ (modifyEntry x g s).lastCause = s.lastCause ∧ (modifyEntry x g s).supplyHeld = s.supplyHeld
     ∧ (modifyEntry x g s).lineHeld = s.lineHeld ∧ (modifyEntry x g s).queries = s.queries
     ∧ (modifyEntry x g s).incomplete = s.incomplete ∧ (modifyEntry x g s).writeHold = s.writeHold
     ∧ (modifyEntry x g s).passWrites = s.passWrites ∧ (modifyEntry x g s).linkOut = s.linkOut
     ∧ (modifyEntry x g s).chainOut = s.chainOut ∧ (modifyEntry x g s).opCount = s.opCount
     ∧ (modifyEntry x g s).freeCount = s.freeCount ∧ (modifyEntry x g s).pending = s.pending :=
  ⟨rfl, rfl, rfl, rfl, rfl, rfl, rfl, rfl, rfl, rfl, rfl, rfl, rfl, rfl, rfl, rfl, rfl, rfl, rfl, rfl,
   rfl, rfl, rfl, rfl, rfl, rfl, rfl, rfl, rfl, rfl, rfl, rfl, rfl, rfl, rfl, rfl, rfl, rfl, rfl, rfl,
   rfl, rfl, rfl, rfl, rfl, rfl, rfl, rfl, rfl, rfl⟩

@[simp] theorem modifyEntry_writes (x : EntrySubject) (g : Entry → Entry) (s : State) :
    (modifyEntry x g s).queue = (s.queue.map fun e => if e.subject = x then g e else e) :=
  rfl

@[simp] theorem modifyUnit_keeps (u : Nat) (g : UnitRec → UnitRec) (s : State) :
    (modifyUnit u g s).editions = s.editions ∧ (modifyUnit u g s).photos = s.photos
     ∧ (modifyUnit u g s).profiles = s.profiles ∧ (modifyUnit u g s).tariff = s.tariff
     ∧ (modifyUnit u g s).accounts = s.accounts ∧ (modifyUnit u g s).holders = s.holders
     ∧ (modifyUnit u g s).revenue = s.revenue ∧ (modifyUnit u g s).commitLimit = s.commitLimit
     ∧ (modifyUnit u g s).filter = s.filter ∧ (modifyUnit u g s).arm = s.arm
     ∧ (modifyUnit u g s).slots = s.slots ∧ (modifyUnit u g s).queue = s.queue
     ∧ (modifyUnit u g s).reads = s.reads ∧ (modifyUnit u g s).held2 = s.held2
     ∧ (modifyUnit u g s).held3 = s.held3 ∧ (modifyUnit u g s).free = s.free
     ∧ (modifyUnit u g s).staging = s.staging ∧ (modifyUnit u g s).tickets = s.tickets
     ∧ (modifyUnit u g s).nextTicket = s.nextTicket ∧ (modifyUnit u g s).jobs = s.jobs
     ∧ (modifyUnit u g s).nextJob = s.nextJob ∧ (modifyUnit u g s).engine = s.engine
     ∧ (modifyUnit u g s).orders = s.orders ∧ (modifyUnit u g s).nextOrder = s.nextOrder
     ∧ (modifyUnit u g s).slabWait = s.slabWait ∧ (modifyUnit u g s).restoreWait = s.restoreWait
     ∧ (modifyUnit u g s).notices = s.notices ∧ (modifyUnit u g s).queueFull = s.queueFull
     ∧ (modifyUnit u g s).halfArmed = s.halfArmed ∧ (modifyUnit u g s).attention = s.attention
     ∧ (modifyUnit u g s).receiver = s.receiver ∧ (modifyUnit u g s).inputBuffer = s.inputBuffer
     ∧ (modifyUnit u g s).outbound = s.outbound ∧ (modifyUnit u g s).linkResetDue = s.linkResetDue
     ∧ (modifyUnit u g s).timeBase = s.timeBase ∧ (modifyUnit u g s).date = s.date
     ∧ (modifyUnit u g s).supply = s.supply ∧ (modifyUnit u g s).part = s.part
     ∧ (modifyUnit u g s).lastCause = s.lastCause ∧ (modifyUnit u g s).supplyHeld = s.supplyHeld
     ∧ (modifyUnit u g s).lineHeld = s.lineHeld ∧ (modifyUnit u g s).queries = s.queries
     ∧ (modifyUnit u g s).incomplete = s.incomplete ∧ (modifyUnit u g s).writeHold = s.writeHold
     ∧ (modifyUnit u g s).passWrites = s.passWrites ∧ (modifyUnit u g s).linkOut = s.linkOut
     ∧ (modifyUnit u g s).chainOut = s.chainOut ∧ (modifyUnit u g s).opCount = s.opCount
     ∧ (modifyUnit u g s).freeCount = s.freeCount ∧ (modifyUnit u g s).pending = s.pending :=
  ⟨rfl, rfl, rfl, rfl, rfl, rfl, rfl, rfl, rfl, rfl, rfl, rfl, rfl, rfl, rfl, rfl, rfl, rfl, rfl, rfl,
   rfl, rfl, rfl, rfl, rfl, rfl, rfl, rfl, rfl, rfl, rfl, rfl, rfl, rfl, rfl, rfl, rfl, rfl, rfl, rfl,
   rfl, rfl, rfl, rfl, rfl, rfl, rfl, rfl, rfl, rfl⟩

@[simp] theorem modifyUnit_writes (u : Nat) (g : UnitRec → UnitRec) (s : State) :
    (modifyUnit u g s).units = s.units.modify u g :=
  rfl

@[simp] theorem sendOperation_keeps (u : Nat) (w : Work) (s : State) :
    (sendOperation u w s).editions = s.editions ∧ (sendOperation u w s).photos = s.photos
     ∧ (sendOperation u w s).profiles = s.profiles ∧ (sendOperation u w s).tariff = s.tariff
     ∧ (sendOperation u w s).accounts = s.accounts ∧ (sendOperation u w s).holders = s.holders
     ∧ (sendOperation u w s).revenue = s.revenue ∧ (sendOperation u w s).commitLimit = s.commitLimit
     ∧ (sendOperation u w s).filter = s.filter ∧ (sendOperation u w s).arm = s.arm
     ∧ (sendOperation u w s).slots = s.slots ∧ (sendOperation u w s).queue = s.queue
     ∧ (sendOperation u w s).reads = s.reads ∧ (sendOperation u w s).held2 = s.held2
     ∧ (sendOperation u w s).held3 = s.held3 ∧ (sendOperation u w s).free = s.free
     ∧ (sendOperation u w s).staging = s.staging ∧ (sendOperation u w s).tickets = s.tickets
     ∧ (sendOperation u w s).nextTicket = s.nextTicket ∧ (sendOperation u w s).jobs = s.jobs
     ∧ (sendOperation u w s).nextJob = s.nextJob ∧ (sendOperation u w s).engine = s.engine
     ∧ (sendOperation u w s).orders = s.orders ∧ (sendOperation u w s).nextOrder = s.nextOrder
     ∧ (sendOperation u w s).slabWait = s.slabWait ∧ (sendOperation u w s).restoreWait = s.restoreWait
     ∧ (sendOperation u w s).notices = s.notices ∧ (sendOperation u w s).queueFull = s.queueFull
     ∧ (sendOperation u w s).halfArmed = s.halfArmed ∧ (sendOperation u w s).attention = s.attention
     ∧ (sendOperation u w s).receiver = s.receiver ∧ (sendOperation u w s).inputBuffer = s.inputBuffer
     ∧ (sendOperation u w s).outbound = s.outbound ∧ (sendOperation u w s).linkResetDue = s.linkResetDue
     ∧ (sendOperation u w s).timeBase = s.timeBase ∧ (sendOperation u w s).date = s.date
     ∧ (sendOperation u w s).supply = s.supply ∧ (sendOperation u w s).part = s.part
     ∧ (sendOperation u w s).lastCause = s.lastCause ∧ (sendOperation u w s).supplyHeld = s.supplyHeld
     ∧ (sendOperation u w s).lineHeld = s.lineHeld ∧ (sendOperation u w s).queries = s.queries
     ∧ (sendOperation u w s).incomplete = s.incomplete ∧ (sendOperation u w s).writeHold = s.writeHold
     ∧ (sendOperation u w s).passWrites = s.passWrites ∧ (sendOperation u w s).linkOut = s.linkOut
     ∧ (sendOperation u w s).chainOut = s.chainOut ∧ (sendOperation u w s).freeCount = s.freeCount
     ∧ (sendOperation u w s).pending = s.pending :=
  ⟨rfl, rfl, rfl, rfl, rfl, rfl, rfl, rfl, rfl, rfl, rfl, rfl, rfl, rfl, rfl, rfl, rfl, rfl, rfl, rfl,
   rfl, rfl, rfl, rfl, rfl, rfl, rfl, rfl, rfl, rfl, rfl, rfl, rfl, rfl, rfl, rfl, rfl, rfl, rfl, rfl,
   rfl, rfl, rfl, rfl, rfl, rfl, rfl, rfl, rfl⟩

@[simp] theorem sendOperation_writes (u : Nat) (w : Work) (s : State) :

     (sendOperation u w s).units = s.units.modify u (fun x => { x with op := some ⟨s.opCount, w, s.timeBase, s.commitLimit⟩ })
     ∧ (sendOperation u w s).opCount = s.opCount + 1 :=
  ⟨rfl, rfl⟩

@[simp] theorem modifyProfile_keeps (k : Nat) (g : Profile → Profile) (s : State) :
    (modifyProfile k g s).editions = s.editions ∧ (modifyProfile k g s).photos = s.photos
     ∧ (modifyProfile k g s).tariff = s.tariff ∧ (modifyProfile k g s).accounts = s.accounts
     ∧ (modifyProfile k g s).holders = s.holders ∧ (modifyProfile k g s).revenue = s.revenue
     ∧ (modifyProfile k g s).commitLimit = s.commitLimit ∧ (modifyProfile k g s).filter = s.filter
     ∧ (modifyProfile k g s).arm = s.arm ∧ (modifyProfile k g s).slots = s.slots
     ∧ (modifyProfile k g s).queue = s.queue ∧ (modifyProfile k g s).units = s.units
     ∧ (modifyProfile k g s).reads = s.reads ∧ (modifyProfile k g s).held2 = s.held2
     ∧ (modifyProfile k g s).held3 = s.held3 ∧ (modifyProfile k g s).free = s.free
     ∧ (modifyProfile k g s).staging = s.staging ∧ (modifyProfile k g s).tickets = s.tickets
     ∧ (modifyProfile k g s).nextTicket = s.nextTicket ∧ (modifyProfile k g s).jobs = s.jobs
     ∧ (modifyProfile k g s).nextJob = s.nextJob ∧ (modifyProfile k g s).engine = s.engine
     ∧ (modifyProfile k g s).orders = s.orders ∧ (modifyProfile k g s).nextOrder = s.nextOrder
     ∧ (modifyProfile k g s).slabWait = s.slabWait ∧ (modifyProfile k g s).restoreWait = s.restoreWait
     ∧ (modifyProfile k g s).notices = s.notices ∧ (modifyProfile k g s).queueFull = s.queueFull
     ∧ (modifyProfile k g s).halfArmed = s.halfArmed ∧ (modifyProfile k g s).attention = s.attention
     ∧ (modifyProfile k g s).receiver = s.receiver ∧ (modifyProfile k g s).inputBuffer = s.inputBuffer
     ∧ (modifyProfile k g s).outbound = s.outbound ∧ (modifyProfile k g s).linkResetDue = s.linkResetDue
     ∧ (modifyProfile k g s).timeBase = s.timeBase ∧ (modifyProfile k g s).date = s.date
     ∧ (modifyProfile k g s).supply = s.supply ∧ (modifyProfile k g s).part = s.part
     ∧ (modifyProfile k g s).lastCause = s.lastCause ∧ (modifyProfile k g s).supplyHeld = s.supplyHeld
     ∧ (modifyProfile k g s).lineHeld = s.lineHeld ∧ (modifyProfile k g s).queries = s.queries
     ∧ (modifyProfile k g s).incomplete = s.incomplete ∧ (modifyProfile k g s).writeHold = s.writeHold
     ∧ (modifyProfile k g s).passWrites = s.passWrites ∧ (modifyProfile k g s).linkOut = s.linkOut
     ∧ (modifyProfile k g s).chainOut = s.chainOut ∧ (modifyProfile k g s).opCount = s.opCount
     ∧ (modifyProfile k g s).freeCount = s.freeCount ∧ (modifyProfile k g s).pending = s.pending :=
  ⟨rfl, rfl, rfl, rfl, rfl, rfl, rfl, rfl, rfl, rfl, rfl, rfl, rfl, rfl, rfl, rfl, rfl, rfl, rfl, rfl,
   rfl, rfl, rfl, rfl, rfl, rfl, rfl, rfl, rfl, rfl, rfl, rfl, rfl, rfl, rfl, rfl, rfl, rfl, rfl, rfl,
   rfl, rfl, rfl, rfl, rfl, rfl, rfl, rfl, rfl, rfl⟩

@[simp] theorem modifyProfile_writes (k : Nat) (g : Profile → Profile) (s : State) :
    (modifyProfile k g s).profiles = s.profiles.modify k g :=
  rfl

@[simp] theorem modifyHolder_keeps (k : Nat) (g : HolderRec → HolderRec) (s : State) :
    (modifyHolder k g s).editions = s.editions ∧ (modifyHolder k g s).photos = s.photos
     ∧ (modifyHolder k g s).profiles = s.profiles ∧ (modifyHolder k g s).tariff = s.tariff
     ∧ (modifyHolder k g s).accounts = s.accounts ∧ (modifyHolder k g s).revenue = s.revenue
     ∧ (modifyHolder k g s).commitLimit = s.commitLimit ∧ (modifyHolder k g s).filter = s.filter
     ∧ (modifyHolder k g s).arm = s.arm ∧ (modifyHolder k g s).slots = s.slots
     ∧ (modifyHolder k g s).queue = s.queue ∧ (modifyHolder k g s).units = s.units
     ∧ (modifyHolder k g s).reads = s.reads ∧ (modifyHolder k g s).held2 = s.held2
     ∧ (modifyHolder k g s).held3 = s.held3 ∧ (modifyHolder k g s).free = s.free
     ∧ (modifyHolder k g s).staging = s.staging ∧ (modifyHolder k g s).tickets = s.tickets
     ∧ (modifyHolder k g s).nextTicket = s.nextTicket ∧ (modifyHolder k g s).jobs = s.jobs
     ∧ (modifyHolder k g s).nextJob = s.nextJob ∧ (modifyHolder k g s).engine = s.engine
     ∧ (modifyHolder k g s).orders = s.orders ∧ (modifyHolder k g s).nextOrder = s.nextOrder
     ∧ (modifyHolder k g s).slabWait = s.slabWait ∧ (modifyHolder k g s).restoreWait = s.restoreWait
     ∧ (modifyHolder k g s).notices = s.notices ∧ (modifyHolder k g s).queueFull = s.queueFull
     ∧ (modifyHolder k g s).halfArmed = s.halfArmed ∧ (modifyHolder k g s).attention = s.attention
     ∧ (modifyHolder k g s).receiver = s.receiver ∧ (modifyHolder k g s).inputBuffer = s.inputBuffer
     ∧ (modifyHolder k g s).outbound = s.outbound ∧ (modifyHolder k g s).linkResetDue = s.linkResetDue
     ∧ (modifyHolder k g s).timeBase = s.timeBase ∧ (modifyHolder k g s).date = s.date
     ∧ (modifyHolder k g s).supply = s.supply ∧ (modifyHolder k g s).part = s.part
     ∧ (modifyHolder k g s).lastCause = s.lastCause ∧ (modifyHolder k g s).supplyHeld = s.supplyHeld
     ∧ (modifyHolder k g s).lineHeld = s.lineHeld ∧ (modifyHolder k g s).queries = s.queries
     ∧ (modifyHolder k g s).incomplete = s.incomplete ∧ (modifyHolder k g s).writeHold = s.writeHold
     ∧ (modifyHolder k g s).passWrites = s.passWrites ∧ (modifyHolder k g s).linkOut = s.linkOut
     ∧ (modifyHolder k g s).chainOut = s.chainOut ∧ (modifyHolder k g s).opCount = s.opCount
     ∧ (modifyHolder k g s).freeCount = s.freeCount ∧ (modifyHolder k g s).pending = s.pending :=
  ⟨rfl, rfl, rfl, rfl, rfl, rfl, rfl, rfl, rfl, rfl, rfl, rfl, rfl, rfl, rfl, rfl, rfl, rfl, rfl, rfl,
   rfl, rfl, rfl, rfl, rfl, rfl, rfl, rfl, rfl, rfl, rfl, rfl, rfl, rfl, rfl, rfl, rfl, rfl, rfl, rfl,
   rfl, rfl, rfl, rfl, rfl, rfl, rfl, rfl, rfl, rfl⟩

@[simp] theorem modifyHolder_writes (k : Nat) (g : HolderRec → HolderRec) (s : State) :
    (modifyHolder k g s).holders = s.holders.modify k g :=
  rfl

@[simp] theorem joinNotices_keeps (n : Notice) (s : State) :
    (joinNotices n s).editions = s.editions ∧ (joinNotices n s).photos = s.photos
     ∧ (joinNotices n s).profiles = s.profiles ∧ (joinNotices n s).tariff = s.tariff
     ∧ (joinNotices n s).accounts = s.accounts ∧ (joinNotices n s).holders = s.holders
     ∧ (joinNotices n s).revenue = s.revenue ∧ (joinNotices n s).commitLimit = s.commitLimit
     ∧ (joinNotices n s).filter = s.filter ∧ (joinNotices n s).arm = s.arm ∧ (joinNotices n s).slots = s.slots
     ∧ (joinNotices n s).queue = s.queue ∧ (joinNotices n s).units = s.units ∧ (joinNotices n s).reads = s.reads
     ∧ (joinNotices n s).held2 = s.held2 ∧ (joinNotices n s).held3 = s.held3 ∧ (joinNotices n s).free = s.free
     ∧ (joinNotices n s).staging = s.staging ∧ (joinNotices n s).tickets = s.tickets
     ∧ (joinNotices n s).nextTicket = s.nextTicket ∧ (joinNotices n s).jobs = s.jobs
     ∧ (joinNotices n s).nextJob = s.nextJob ∧ (joinNotices n s).engine = s.engine
     ∧ (joinNotices n s).orders = s.orders ∧ (joinNotices n s).nextOrder = s.nextOrder
     ∧ (joinNotices n s).slabWait = s.slabWait ∧ (joinNotices n s).restoreWait = s.restoreWait
     ∧ (joinNotices n s).queueFull = s.queueFull ∧ (joinNotices n s).halfArmed = s.halfArmed
     ∧ (joinNotices n s).receiver = s.receiver ∧ (joinNotices n s).inputBuffer = s.inputBuffer
     ∧ (joinNotices n s).outbound = s.outbound ∧ (joinNotices n s).linkResetDue = s.linkResetDue
     ∧ (joinNotices n s).timeBase = s.timeBase ∧ (joinNotices n s).date = s.date
     ∧ (joinNotices n s).supply = s.supply ∧ (joinNotices n s).part = s.part
     ∧ (joinNotices n s).lastCause = s.lastCause ∧ (joinNotices n s).supplyHeld = s.supplyHeld
     ∧ (joinNotices n s).lineHeld = s.lineHeld ∧ (joinNotices n s).queries = s.queries
     ∧ (joinNotices n s).incomplete = s.incomplete ∧ (joinNotices n s).writeHold = s.writeHold
     ∧ (joinNotices n s).passWrites = s.passWrites ∧ (joinNotices n s).linkOut = s.linkOut
     ∧ (joinNotices n s).chainOut = s.chainOut ∧ (joinNotices n s).opCount = s.opCount
     ∧ (joinNotices n s).freeCount = s.freeCount ∧ (joinNotices n s).pending = s.pending :=
  ⟨rfl, rfl, rfl, rfl, rfl, rfl, rfl, rfl, rfl, rfl, rfl, rfl, rfl, rfl, rfl, rfl, rfl, rfl, rfl, rfl,
   rfl, rfl, rfl, rfl, rfl, rfl, rfl, rfl, rfl, rfl, rfl, rfl, rfl, rfl, rfl, rfl, rfl, rfl, rfl, rfl,
   rfl, rfl, rfl, rfl, rfl, rfl, rfl, rfl, rfl⟩

@[simp] theorem joinNotices_writes (n : Notice) (s : State) :
    (joinNotices n s).notices = s.notices ++ [n] ∧ (joinNotices n s).attention = true :=
  ⟨rfl, rfl⟩

@[simp] theorem dropNotices_keeps (n : Nat) (s : State) :
    (dropNotices n s).editions = s.editions ∧ (dropNotices n s).photos = s.photos
     ∧ (dropNotices n s).profiles = s.profiles ∧ (dropNotices n s).tariff = s.tariff
     ∧ (dropNotices n s).accounts = s.accounts ∧ (dropNotices n s).holders = s.holders
     ∧ (dropNotices n s).revenue = s.revenue ∧ (dropNotices n s).commitLimit = s.commitLimit
     ∧ (dropNotices n s).filter = s.filter ∧ (dropNotices n s).arm = s.arm ∧ (dropNotices n s).slots = s.slots
     ∧ (dropNotices n s).queue = s.queue ∧ (dropNotices n s).units = s.units ∧ (dropNotices n s).reads = s.reads
     ∧ (dropNotices n s).held2 = s.held2 ∧ (dropNotices n s).held3 = s.held3 ∧ (dropNotices n s).free = s.free
     ∧ (dropNotices n s).staging = s.staging ∧ (dropNotices n s).tickets = s.tickets
     ∧ (dropNotices n s).nextTicket = s.nextTicket ∧ (dropNotices n s).jobs = s.jobs
     ∧ (dropNotices n s).nextJob = s.nextJob ∧ (dropNotices n s).engine = s.engine
     ∧ (dropNotices n s).orders = s.orders ∧ (dropNotices n s).nextOrder = s.nextOrder
     ∧ (dropNotices n s).slabWait = s.slabWait ∧ (dropNotices n s).restoreWait = s.restoreWait
     ∧ (dropNotices n s).receiver = s.receiver ∧ (dropNotices n s).inputBuffer = s.inputBuffer
     ∧ (dropNotices n s).outbound = s.outbound ∧ (dropNotices n s).linkResetDue = s.linkResetDue
     ∧ (dropNotices n s).timeBase = s.timeBase ∧ (dropNotices n s).date = s.date
     ∧ (dropNotices n s).supply = s.supply ∧ (dropNotices n s).part = s.part
     ∧ (dropNotices n s).lastCause = s.lastCause ∧ (dropNotices n s).supplyHeld = s.supplyHeld
     ∧ (dropNotices n s).lineHeld = s.lineHeld ∧ (dropNotices n s).queries = s.queries
     ∧ (dropNotices n s).incomplete = s.incomplete ∧ (dropNotices n s).writeHold = s.writeHold
     ∧ (dropNotices n s).passWrites = s.passWrites ∧ (dropNotices n s).linkOut = s.linkOut
     ∧ (dropNotices n s).chainOut = s.chainOut ∧ (dropNotices n s).opCount = s.opCount
     ∧ (dropNotices n s).freeCount = s.freeCount ∧ (dropNotices n s).pending = s.pending :=
  ⟨rfl, rfl, rfl, rfl, rfl, rfl, rfl, rfl, rfl, rfl, rfl, rfl, rfl, rfl, rfl, rfl, rfl, rfl, rfl, rfl,
   rfl, rfl, rfl, rfl, rfl, rfl, rfl, rfl, rfl, rfl, rfl, rfl, rfl, rfl, rfl, rfl, rfl, rfl, rfl, rfl,
   rfl, rfl, rfl, rfl, rfl, rfl, rfl⟩

@[simp] theorem setHold_keeps (c : Nat) (on : Bool) (s : State) :
    (setHold c on s).editions = s.editions ∧ (setHold c on s).photos = s.photos
     ∧ (setHold c on s).profiles = s.profiles ∧ (setHold c on s).tariff = s.tariff
     ∧ (setHold c on s).accounts = s.accounts ∧ (setHold c on s).holders = s.holders
     ∧ (setHold c on s).revenue = s.revenue ∧ (setHold c on s).commitLimit = s.commitLimit
     ∧ (setHold c on s).filter = s.filter ∧ (setHold c on s).arm = s.arm ∧ (setHold c on s).slots = s.slots
     ∧ (setHold c on s).queue = s.queue ∧ (setHold c on s).units = s.units ∧ (setHold c on s).reads = s.reads
     ∧ (setHold c on s).free = s.free ∧ (setHold c on s).staging = s.staging
     ∧ (setHold c on s).tickets = s.tickets ∧ (setHold c on s).nextTicket = s.nextTicket
     ∧ (setHold c on s).jobs = s.jobs ∧ (setHold c on s).nextJob = s.nextJob
     ∧ (setHold c on s).engine = s.engine ∧ (setHold c on s).orders = s.orders
     ∧ (setHold c on s).nextOrder = s.nextOrder ∧ (setHold c on s).slabWait = s.slabWait
     ∧ (setHold c on s).restoreWait = s.restoreWait ∧ (setHold c on s).notices = s.notices
     ∧ (setHold c on s).queueFull = s.queueFull ∧ (setHold c on s).halfArmed = s.halfArmed
     ∧ (setHold c on s).attention = s.attention ∧ (setHold c on s).receiver = s.receiver
     ∧ (setHold c on s).inputBuffer = s.inputBuffer ∧ (setHold c on s).outbound = s.outbound
     ∧ (setHold c on s).linkResetDue = s.linkResetDue ∧ (setHold c on s).timeBase = s.timeBase
     ∧ (setHold c on s).date = s.date ∧ (setHold c on s).supply = s.supply ∧ (setHold c on s).part = s.part
     ∧ (setHold c on s).lastCause = s.lastCause ∧ (setHold c on s).supplyHeld = s.supplyHeld
     ∧ (setHold c on s).lineHeld = s.lineHeld ∧ (setHold c on s).queries = s.queries
     ∧ (setHold c on s).incomplete = s.incomplete ∧ (setHold c on s).writeHold = s.writeHold
     ∧ (setHold c on s).passWrites = s.passWrites ∧ (setHold c on s).linkOut = s.linkOut
     ∧ (setHold c on s).chainOut = s.chainOut ∧ (setHold c on s).opCount = s.opCount
     ∧ (setHold c on s).freeCount = s.freeCount ∧ (setHold c on s).pending = s.pending :=
  ⟨rfl, rfl, rfl, rfl, rfl, rfl, rfl, rfl, rfl, rfl, rfl, rfl, rfl, rfl, rfl, rfl, rfl, rfl, rfl, rfl,
   rfl, rfl, rfl, rfl, rfl, rfl, rfl, rfl, rfl, rfl, rfl, rfl, rfl, rfl, rfl, rfl, rfl, rfl, rfl, rfl,
   rfl, rfl, rfl, rfl, rfl, rfl, rfl, rfl, rfl⟩

end Sys2Proof.Machine
end

