-- ==== Sys2Proof/Laws/Requests.lean ====
section
/-! SUPPORT. What taking and answering a request can do, said once (R194, R195, R196), and the rewriting of a
request's checks. -/

namespace Sys2Proof.Machine

/-! ### Checks -/

@[simp] theorem ok_bind {α β ε : Type} (a : α) (f : α → Except ε β) : (Except.ok a >>= f) = f a := rfl

@[simp] theorem error_bind {α β ε : Type} (e : ε) (f : α → Except ε β) :
    ((Except.error e : Except ε α) >>= f) = .error e := rfl

@[simp] theorem pure_is_ok {α ε : Type} (a : α) : (pure a : Except ε α) = .ok a := rfl

@[simp] theorem ensure_true (r : Reason) : ensure true r = .ok () := rfl

@[simp] theorem ensure_false (r : Reason) : ensure false r = .error (.refused r []) := rfl

@[simp] theorem need_true (r : Reason) : need true r = .ok () := rfl

@[simp] theorem need_false (r : Reason) : need false r = .error r := rfl

@[simp] theorem lookup_some {α : Type} (a : α) (r : Reason) : lookup (some a) r = .ok a := rfl

@[simp] theorem lookup_none {α : Type} (r : Reason) : lookup (none : Option α) r = .error (.refused r []) := rfl

@[simp] theorem found_some {α : Type} (a : α) (r : Reason) : found (some a) r = .ok a := rfl

@[simp] theorem found_none {α : Type} (r : Reason) : found (none : Option α) r = .error r := rfl

@[simp] theorem refuse_is_error {α : Type} (r : Reason) (l : List Wire) :
    (refuse r l : Except ReplyBody α) = .error (.refused r l) := rfl

@[simp] theorem resolved_ok (x : Resolved) : resolved (.ok x) = .ok x := rfl

@[simp] theorem resolved_error (r : Reason) : resolved (.error r) = .error (.refused r []) := rfl

@[simp] theorem done_is_ok (s : State) (l : List Wire) : done s l = .ok (s, some (.done l)) := rfl

/-! ### Answers -/

@[simp] theorem answer_error (tag : Nat) (s : State) (b : ReplyBody) :
    answer tag s (.error b) = replied tag b s := rfl

@[simp] theorem answer_reply (tag : Nat) (s t : State) (b : ReplyBody) :
    answer tag s (.ok (t, some b)) = replied tag b t := rfl

@[simp] theorem answer_later (tag : Nat) (s t : State) : answer tag s (.ok (t, none)) = t := rfl

/-- A check at the front of a request's list, as a statement writes it: where `c` holds the request is refused, and
else the rest decides (R195). -/
theorem ends_ensure {tag : Nat} {t : State} {b : Bool} {r : Reason} {f : Unit → Checked} {c : Prop} [Decidable c]
    {x : Answered} (hb : b = true ↔ ¬ c) (hx : ¬ c → Host.Outcome.next (answer tag t (f ())) = x) :
    Host.Outcome.next (answer tag t (ensure b r >>= f))
      = if c then .next (replied tag (.refused r []) t) else x := by
  by_cases h : c
  · have : b = false := by simpa using mt hb.mp (not_not_intro h)
    rw [if_pos h, this]; rfl
  · rw [if_neg h, hb.mpr h]; exact hx h

/-- Two checks in a row with one reason, as a statement writes them: one condition (R195). -/
theorem ends_ensure_or {tag : Nat} {t : State} {a b : Bool} {r : Reason} {f : Unit → Checked} {c d : Prop}
    [Decidable c] [Decidable d] {x : Answered} (ha : a = true ↔ ¬ c) (hb : b = true ↔ ¬ d)
    (hx : ¬ (c ∨ d) → Host.Outcome.next (answer tag t (f ())) = x) :
    Host.Outcome.next (answer tag t (ensure a r >>= fun _ => ensure b r >>= f))
      = if c ∨ d then .next (replied tag (.refused r []) t) else x := by
  by_cases hc : c
  · have : a = false := by simpa using mt ha.mp (not_not_intro hc)
    rw [if_pos (.inl hc), this]; rfl
  · rw [ha.mpr hc]
    by_cases hd : d
    · have : b = false := by simpa using mt hb.mp (not_not_intro hd)
      rw [if_pos (.inr hd), this]; rfl
    · rw [if_neg (by tauto), hb.mpr hd]; exact hx (by tauto)

/-- A lookup at the front of a request's list that finds something (R195). -/
theorem ends_found {α : Type} {tag : Nat} {t : State} {o : Option α} {a : α} {r : Reason} {f : α → Checked}
    {x : Answered} (h : o = some a) (hx : Host.Outcome.next (answer tag t (f a)) = x) :
    Host.Outcome.next (answer tag t (lookup o r >>= f)) = x := by
  rw [h]; exact hx

/-- A lookup that finds nothing refuses the request (R195). -/
theorem ends_missing {α : Type} {tag : Nat} {t : State} {o : Option α} {r : Reason} {f : α → Checked} (h : o = none) :
    (Host.Outcome.next (answer tag t (lookup o r >>= f)) : Answered) = .next (replied tag (.refused r []) t) := by
  rw [h]; rfl

/-! ### Taking -/

/-- A request that can be taken leaves the buffer (R194). -/
theorem takeRequest_takes {c : Instr} {s : State} (h : Takes c s) : takeRequest c s = some (taken s) := if_pos h

/-- A request that cannot be taken is not taken (R194, R199). -/
theorem takeRequest_not {c : Instr} {s : State} (h : ¬ Takes c s) : takeRequest c s = none := if_neg h

/-- A request taken and acted on (R195, case 4): the arm is dropped, its rule decides, the reply leaves. -/
theorem request_acts {α : Type} {c : Instr} {s : State} (h : Acts c s) (tag : Nat) (f : α)
    (act : α → State → Checked) :
    request c ⟨tag, some f⟩ act s = answer tag (taken s) (act f (taken s)) := by
  have hp : (taken s).part ≠ .starting := by rw [show (taken s).part = s.part from rfl, h.1]; decide
  simp only [request, takeRequest_takes h.2, if_neg hp]

/-- The same, as a statement of the command's outcome meets it. -/
theorem ends_request {α : Type} {c : Instr} {s : State} {tag : Nat} {f : α} {act : α → State → Checked} {x : Answered}
    (h : Acts c s) (hx : Host.Outcome.next (answer tag (taken s) (act f (taken s))) = x) :
    Host.Outcome.next (request c ⟨tag, some f⟩ act s) = x := by
  rw [request_acts h]; exact hx

/-- A body that does not fit (R195, case 3). -/
theorem request_misfit {α : Type} {c : Instr} {s : State} (h : Acts c s) (tag : Nat) (act : α → State → Checked) :
    request c ⟨tag, none⟩ act s = replied tag (.refused .malformed []) (taken s) := by
  have hp : (taken s).part ≠ .starting := by rw [show (taken s).part = s.part from rfl, h.1]; decide
  simp only [request, takeRequest_takes h.2, if_neg hp, replied]

/-- While STARTING (R195, case 1). -/
theorem request_starting {α : Type} {c : Instr} {s : State} (h : Takes c s) (hp : s.part = .starting)
    (r : Taken α) (act : α → State → Checked) :
    request c r act s = replied r.tag (.retry .starting .none []) (taken s) := by
  have hp : (taken s).part = .starting := hp
  simp only [request, takeRequest_takes h, if_pos hp, replied]

/-- A request that cannot be taken changes nothing (log 2). -/
theorem request_not_taken {α : Type} {c : Instr} {s : State} (h : ¬ Takes c s) (r : Taken α)
    (act : α → State → Checked) : request c r act s = s := by
  simp only [request, takeRequest_not h]

/-! ### Timers -/

/-- A timer has come to its expiry when its length in ticks has passed (R210). -/
theorem due_iff (s : State) (n : Nat) (t : Tick) : due s n t = true ↔ 100 * n ≤ (s.timeBase - t).toNat :=
  decide_eq_true_iff

/-- A timer has not come to its expiry before (R210). -/
theorem due_false_iff (s : State) (n : Nat) (t : Tick) :
    due s n t = false ↔ (s.timeBase - t).toNat < 100 * n :=
  decide_eq_false_iff_not.trans Nat.not_le

end Sys2Proof.Machine
end

