-- ==== Sys2Proof/Laws/Checks.lean ====
section
/-! SUPPORT. What the checks that several deposit requests share can answer, one lemma each (R34, R44, R46). -/

namespace Sys2Proof.Machine

/-- The last three tests of a deposit request (R44): RETRY NO-SLOT, QUEUE-FULL, STAGING-FULL, or the slot. -/
theorem slotTests_ends {tag : Nat} {s : State} {size : Nat} {f : Nat → Checked} {x : Nat → Answered}
    (hx : ∀ k, Host.Outcome.next (answer tag (taken s) (f k)) = x k) :
    Host.Outcome.next (answer tag (taken s) (slotTests size (taken s) >>= f)) =
      match (motive := Option Nat → Answered) s.slots.findIdx? Option.isNone with
      | none => endsRetry tag .noSlot .none [] s
      | some k => if freePlaces s = 0 then endsRefused tag .queueFull s
          else if s.free < (size + 65535) / 65536 then endsRefused tag .stagingFull s else x k := by
  unfold slotTests freeSlot
  simp only [taken_keeps]
  cases hs : s.slots.findIdx? Option.isNone with
  | none => rfl
  | some k =>
    simp only [ok_bind]
    have : freePlaces (taken s) = freePlaces s := rfl
    by_cases h4 : freePlaces s = 0
    · simp [this, h4]
    by_cases h5 : s.free < (size + 65535) / 65536
    · have : ¬ slabsFor size ≤ s.free := by simpa [slabsFor] using h5
      simp [*, Nat.pos_of_ne_zero h4]
    have h6 : slabsFor size ≤ s.free := by simpa [slabsFor] using h5
    simp only [this, h6, Nat.pos_of_ne_zero h4, decide_true, ensure_true, ok_bind, pure_is_ok, if_neg h4, if_neg h5]
    exact hx k

/-- The size and tile checks of R46, step 4. -/
theorem sizeChecks_ends {tag : Nat} {t : State} {e : Edition} {size w h : Nat} {f : Unit → Checked} {x : Answered}
    (hx : Host.Outcome.next (answer tag t (f ())) = x) :
    Host.Outcome.next (answer tag t (sizeChecks e size w h >>= f)) =
        if e.source = .press ∧ (size = 0 ∨ 134217728 < size) then .next (replied tag (.refused .outOfRange []) t)
        else if e.source = .scan ∧ (w = 0 ∨ 128 < w ∨ h = 0 ∨ 192 < h) then .next (replied tag (.refused .outOfRange []) t)
        else if e.source = .scan ∧ size ≠ w * h * 4096 then .next (replied tag (.refused .malformed []) t) else x := by
  unfold sizeChecks
  cases e.source with
  | press =>
    refine Eq.trans (ends_ensure (c := size = 0 ∨ 134217728 < size) (x := x) (by simp) fun _ => hx) ?_
    simp
  | scan =>
    simp only [bind_assoc]
    refine Eq.trans (ends_ensure (c := w = 0 ∨ 128 < w ∨ h = 0 ∨ 192 < h) (by simp) fun _ =>
      ends_ensure (c := size ≠ w * h * 4096) (x := x) (by simp) fun _ => hx) ?_
    simp

/-- The photo list checks of R34. -/
theorem photoChecks_ends {tag : Nat} {s : State} {l : List Nat} {f : Unit → Checked} {x : Answered}
    (hx : Host.Outcome.next (answer tag (taken s) (f ())) = x) :
    Host.Outcome.next (answer tag (taken s) (photoChecks (taken s) l >>= f)) =
        if 16 < l.length then endsRefused tag .malformed s
        else if ∃ n ∈ l, findPhoto s n = none then endsRefused tag .noSuch s
        else if ¬ l.Nodup then endsRefused tag .duplicate s else x := by
  unfold photoChecks
  simp only [bind_assoc]
  have hf : ∀ n, findPhoto (taken s) n = findPhoto s n := fun _ => rfl
  refine ends_ensure (by simp) fun _ => ?_
  refine ends_ensure (by simp [hf, Option.isSome_iff_ne_none]) fun _ => ?_
  refine ends_ensure (by simp) fun _ => ?_
  exact hx

end Sys2Proof.Machine
end

