-- ==== Sys2Proof/Laws/Frames.lean ====
section
/-! SUPPORT. What the shared operations and the cascade leave alone, one lemma per operation. `drain_induction` is
the rule for a property that every task keeps. -/

namespace Sys2Proof.Machine

@[simp] theorem halfCheck_keeps (s : State) :
    (halfCheck s).editions = s.editions ∧ (halfCheck s).photos = s.photos ∧ (halfCheck s).profiles = s.profiles
     ∧ (halfCheck s).tariff = s.tariff ∧ (halfCheck s).accounts = s.accounts ∧ (halfCheck s).holders = s.holders
     ∧ (halfCheck s).revenue = s.revenue ∧ (halfCheck s).commitLimit = s.commitLimit
     ∧ (halfCheck s).filter = s.filter ∧ (halfCheck s).arm = s.arm ∧ (halfCheck s).slots = s.slots
     ∧ (halfCheck s).queue = s.queue ∧ (halfCheck s).units = s.units ∧ (halfCheck s).reads = s.reads
     ∧ (halfCheck s).held2 = s.held2 ∧ (halfCheck s).held3 = s.held3 ∧ (halfCheck s).free = s.free
     ∧ (halfCheck s).staging = s.staging ∧ (halfCheck s).tickets = s.tickets
     ∧ (halfCheck s).nextTicket = s.nextTicket ∧ (halfCheck s).jobs = s.jobs ∧ (halfCheck s).nextJob = s.nextJob
     ∧ (halfCheck s).engine = s.engine ∧ (halfCheck s).orders = s.orders ∧ (halfCheck s).nextOrder = s.nextOrder
     ∧ (halfCheck s).slabWait = s.slabWait ∧ (halfCheck s).restoreWait = s.restoreWait
     ∧ (halfCheck s).receiver = s.receiver ∧ (halfCheck s).inputBuffer = s.inputBuffer
     ∧ (halfCheck s).outbound = s.outbound ∧ (halfCheck s).linkResetDue = s.linkResetDue
     ∧ (halfCheck s).timeBase = s.timeBase ∧ (halfCheck s).date = s.date ∧ (halfCheck s).supply = s.supply
     ∧ (halfCheck s).part = s.part ∧ (halfCheck s).lastCause = s.lastCause
     ∧ (halfCheck s).supplyHeld = s.supplyHeld ∧ (halfCheck s).lineHeld = s.lineHeld
     ∧ (halfCheck s).queries = s.queries ∧ (halfCheck s).incomplete = s.incomplete
     ∧ (halfCheck s).writeHold = s.writeHold ∧ (halfCheck s).passWrites = s.passWrites
     ∧ (halfCheck s).linkOut = s.linkOut ∧ (halfCheck s).chainOut = s.chainOut
     ∧ (halfCheck s).opCount = s.opCount ∧ (halfCheck s).freeCount = s.freeCount
     ∧ (halfCheck s).pending = s.pending := by
  unfold halfCheck; try dsimp only
  (repeat' split) <;> simp

@[simp] theorem raise_keeps (k : NoticeKind) (x : NoticeSubject) (d : List Wire) (s : State) :
    (raise k x d s).editions = s.editions ∧ (raise k x d s).photos = s.photos
     ∧ (raise k x d s).profiles = s.profiles ∧ (raise k x d s).tariff = s.tariff
     ∧ (raise k x d s).accounts = s.accounts ∧ (raise k x d s).holders = s.holders
     ∧ (raise k x d s).revenue = s.revenue ∧ (raise k x d s).commitLimit = s.commitLimit
     ∧ (raise k x d s).filter = s.filter ∧ (raise k x d s).arm = s.arm ∧ (raise k x d s).slots = s.slots
     ∧ (raise k x d s).queue = s.queue ∧ (raise k x d s).units = s.units ∧ (raise k x d s).reads = s.reads
     ∧ (raise k x d s).held2 = s.held2 ∧ (raise k x d s).held3 = s.held3 ∧ (raise k x d s).free = s.free
     ∧ (raise k x d s).staging = s.staging ∧ (raise k x d s).tickets = s.tickets
     ∧ (raise k x d s).nextTicket = s.nextTicket ∧ (raise k x d s).jobs = s.jobs
     ∧ (raise k x d s).nextJob = s.nextJob ∧ (raise k x d s).engine = s.engine
     ∧ (raise k x d s).orders = s.orders ∧ (raise k x d s).nextOrder = s.nextOrder
     ∧ (raise k x d s).slabWait = s.slabWait ∧ (raise k x d s).restoreWait = s.restoreWait
     ∧ (raise k x d s).receiver = s.receiver ∧ (raise k x d s).inputBuffer = s.inputBuffer
     ∧ (raise k x d s).outbound = s.outbound ∧ (raise k x d s).linkResetDue = s.linkResetDue
     ∧ (raise k x d s).timeBase = s.timeBase ∧ (raise k x d s).date = s.date ∧ (raise k x d s).supply = s.supply
     ∧ (raise k x d s).part = s.part ∧ (raise k x d s).lastCause = s.lastCause
     ∧ (raise k x d s).supplyHeld = s.supplyHeld ∧ (raise k x d s).lineHeld = s.lineHeld
     ∧ (raise k x d s).queries = s.queries ∧ (raise k x d s).incomplete = s.incomplete
     ∧ (raise k x d s).writeHold = s.writeHold ∧ (raise k x d s).passWrites = s.passWrites
     ∧ (raise k x d s).linkOut = s.linkOut ∧ (raise k x d s).chainOut = s.chainOut
     ∧ (raise k x d s).opCount = s.opCount ∧ (raise k x d s).freeCount = s.freeCount
     ∧ (raise k x d s).pending = s.pending := by
  unfold raise; try dsimp only
  (repeat' split) <;> simp

@[simp] theorem returnExtents_keeps (l : Location) (n : Nat) (s : State) :
    (returnExtents l n s).editions = s.editions ∧ (returnExtents l n s).photos = s.photos
     ∧ (returnExtents l n s).profiles = s.profiles ∧ (returnExtents l n s).tariff = s.tariff
     ∧ (returnExtents l n s).accounts = s.accounts ∧ (returnExtents l n s).holders = s.holders
     ∧ (returnExtents l n s).revenue = s.revenue ∧ (returnExtents l n s).commitLimit = s.commitLimit
     ∧ (returnExtents l n s).filter = s.filter ∧ (returnExtents l n s).arm = s.arm
     ∧ (returnExtents l n s).slots = s.slots ∧ (returnExtents l n s).queue = s.queue
     ∧ (returnExtents l n s).reads = s.reads ∧ (returnExtents l n s).held2 = s.held2
     ∧ (returnExtents l n s).held3 = s.held3 ∧ (returnExtents l n s).free = s.free
     ∧ (returnExtents l n s).staging = s.staging ∧ (returnExtents l n s).tickets = s.tickets
     ∧ (returnExtents l n s).nextTicket = s.nextTicket ∧ (returnExtents l n s).jobs = s.jobs
     ∧ (returnExtents l n s).nextJob = s.nextJob ∧ (returnExtents l n s).engine = s.engine
     ∧ (returnExtents l n s).orders = s.orders ∧ (returnExtents l n s).nextOrder = s.nextOrder
     ∧ (returnExtents l n s).slabWait = s.slabWait ∧ (returnExtents l n s).restoreWait = s.restoreWait
     ∧ (returnExtents l n s).notices = s.notices ∧ (returnExtents l n s).queueFull = s.queueFull
     ∧ (returnExtents l n s).halfArmed = s.halfArmed ∧ (returnExtents l n s).attention = s.attention
     ∧ (returnExtents l n s).receiver = s.receiver ∧ (returnExtents l n s).inputBuffer = s.inputBuffer
     ∧ (returnExtents l n s).outbound = s.outbound ∧ (returnExtents l n s).linkResetDue = s.linkResetDue
     ∧ (returnExtents l n s).timeBase = s.timeBase ∧ (returnExtents l n s).date = s.date
     ∧ (returnExtents l n s).supply = s.supply ∧ (returnExtents l n s).part = s.part
     ∧ (returnExtents l n s).lastCause = s.lastCause ∧ (returnExtents l n s).supplyHeld = s.supplyHeld
     ∧ (returnExtents l n s).lineHeld = s.lineHeld ∧ (returnExtents l n s).queries = s.queries
     ∧ (returnExtents l n s).incomplete = s.incomplete ∧ (returnExtents l n s).writeHold = s.writeHold
     ∧ (returnExtents l n s).passWrites = s.passWrites ∧ (returnExtents l n s).linkOut = s.linkOut
     ∧ (returnExtents l n s).opCount = s.opCount ∧ (returnExtents l n s).freeCount = s.freeCount
     ∧ (returnExtents l n s).pending = s.pending := by
  unfold returnExtents; try dsimp only
  (repeat' split) <;> simp

@[simp] theorem setContent_keeps (x : Subject) (c : ContentState) (s : State) :
    (setContent x c s).profiles = s.profiles ∧ (setContent x c s).tariff = s.tariff
     ∧ (setContent x c s).accounts = s.accounts ∧ (setContent x c s).holders = s.holders
     ∧ (setContent x c s).revenue = s.revenue ∧ (setContent x c s).commitLimit = s.commitLimit
     ∧ (setContent x c s).filter = s.filter ∧ (setContent x c s).arm = s.arm
     ∧ (setContent x c s).slots = s.slots ∧ (setContent x c s).queue = s.queue
     ∧ (setContent x c s).units = s.units ∧ (setContent x c s).reads = s.reads
     ∧ (setContent x c s).held2 = s.held2 ∧ (setContent x c s).held3 = s.held3
     ∧ (setContent x c s).free = s.free ∧ (setContent x c s).staging = s.staging
     ∧ (setContent x c s).tickets = s.tickets ∧ (setContent x c s).nextTicket = s.nextTicket
     ∧ (setContent x c s).jobs = s.jobs ∧ (setContent x c s).nextJob = s.nextJob
     ∧ (setContent x c s).engine = s.engine ∧ (setContent x c s).orders = s.orders
     ∧ (setContent x c s).nextOrder = s.nextOrder ∧ (setContent x c s).slabWait = s.slabWait
     ∧ (setContent x c s).restoreWait = s.restoreWait ∧ (setContent x c s).notices = s.notices
     ∧ (setContent x c s).queueFull = s.queueFull ∧ (setContent x c s).halfArmed = s.halfArmed
     ∧ (setContent x c s).attention = s.attention ∧ (setContent x c s).receiver = s.receiver
     ∧ (setContent x c s).inputBuffer = s.inputBuffer ∧ (setContent x c s).outbound = s.outbound
     ∧ (setContent x c s).linkResetDue = s.linkResetDue ∧ (setContent x c s).timeBase = s.timeBase
     ∧ (setContent x c s).date = s.date ∧ (setContent x c s).supply = s.supply
     ∧ (setContent x c s).part = s.part ∧ (setContent x c s).lastCause = s.lastCause
     ∧ (setContent x c s).supplyHeld = s.supplyHeld ∧ (setContent x c s).lineHeld = s.lineHeld
     ∧ (setContent x c s).queries = s.queries ∧ (setContent x c s).incomplete = s.incomplete
     ∧ (setContent x c s).writeHold = s.writeHold ∧ (setContent x c s).passWrites = s.passWrites
     ∧ (setContent x c s).linkOut = s.linkOut ∧ (setContent x c s).chainOut = s.chainOut
     ∧ (setContent x c s).opCount = s.opCount ∧ (setContent x c s).freeCount = s.freeCount
     ∧ (setContent x c s).pending = s.pending := by
  cases x <;> simp [setContent]

@[simp] theorem setStored_keeps (x : Subject) (l : Location) (s : State) :
    (setStored x l s).profiles = s.profiles ∧ (setStored x l s).tariff = s.tariff
     ∧ (setStored x l s).accounts = s.accounts ∧ (setStored x l s).holders = s.holders
     ∧ (setStored x l s).revenue = s.revenue ∧ (setStored x l s).commitLimit = s.commitLimit
     ∧ (setStored x l s).filter = s.filter ∧ (setStored x l s).arm = s.arm ∧ (setStored x l s).slots = s.slots
     ∧ (setStored x l s).queue = s.queue ∧ (setStored x l s).units = s.units ∧ (setStored x l s).reads = s.reads
     ∧ (setStored x l s).held2 = s.held2 ∧ (setStored x l s).held3 = s.held3 ∧ (setStored x l s).free = s.free
     ∧ (setStored x l s).staging = s.staging ∧ (setStored x l s).tickets = s.tickets
     ∧ (setStored x l s).nextTicket = s.nextTicket ∧ (setStored x l s).jobs = s.jobs
     ∧ (setStored x l s).nextJob = s.nextJob ∧ (setStored x l s).engine = s.engine
     ∧ (setStored x l s).orders = s.orders ∧ (setStored x l s).nextOrder = s.nextOrder
     ∧ (setStored x l s).slabWait = s.slabWait ∧ (setStored x l s).restoreWait = s.restoreWait
     ∧ (setStored x l s).notices = s.notices ∧ (setStored x l s).queueFull = s.queueFull
     ∧ (setStored x l s).halfArmed = s.halfArmed ∧ (setStored x l s).attention = s.attention
     ∧ (setStored x l s).receiver = s.receiver ∧ (setStored x l s).inputBuffer = s.inputBuffer
     ∧ (setStored x l s).outbound = s.outbound ∧ (setStored x l s).linkResetDue = s.linkResetDue
     ∧ (setStored x l s).timeBase = s.timeBase ∧ (setStored x l s).date = s.date
     ∧ (setStored x l s).supply = s.supply ∧ (setStored x l s).part = s.part
     ∧ (setStored x l s).lastCause = s.lastCause ∧ (setStored x l s).supplyHeld = s.supplyHeld
     ∧ (setStored x l s).lineHeld = s.lineHeld ∧ (setStored x l s).queries = s.queries
     ∧ (setStored x l s).incomplete = s.incomplete ∧ (setStored x l s).writeHold = s.writeHold
     ∧ (setStored x l s).passWrites = s.passWrites ∧ (setStored x l s).linkOut = s.linkOut
     ∧ (setStored x l s).chainOut = s.chainOut ∧ (setStored x l s).opCount = s.opCount
     ∧ (setStored x l s).freeCount = s.freeCount ∧ (setStored x l s).pending = s.pending := by
  cases x <;> simp [setStored]

@[simp] theorem raiseFaults_keeps (x : Subject) (s : State) :
    (raiseFaults x s).profiles = s.profiles ∧ (raiseFaults x s).tariff = s.tariff
     ∧ (raiseFaults x s).accounts = s.accounts ∧ (raiseFaults x s).holders = s.holders
     ∧ (raiseFaults x s).revenue = s.revenue ∧ (raiseFaults x s).commitLimit = s.commitLimit
     ∧ (raiseFaults x s).filter = s.filter ∧ (raiseFaults x s).arm = s.arm ∧ (raiseFaults x s).slots = s.slots
     ∧ (raiseFaults x s).queue = s.queue ∧ (raiseFaults x s).units = s.units ∧ (raiseFaults x s).reads = s.reads
     ∧ (raiseFaults x s).held2 = s.held2 ∧ (raiseFaults x s).held3 = s.held3 ∧ (raiseFaults x s).free = s.free
     ∧ (raiseFaults x s).staging = s.staging ∧ (raiseFaults x s).tickets = s.tickets
     ∧ (raiseFaults x s).nextTicket = s.nextTicket ∧ (raiseFaults x s).jobs = s.jobs
     ∧ (raiseFaults x s).nextJob = s.nextJob ∧ (raiseFaults x s).engine = s.engine
     ∧ (raiseFaults x s).orders = s.orders ∧ (raiseFaults x s).nextOrder = s.nextOrder
     ∧ (raiseFaults x s).slabWait = s.slabWait ∧ (raiseFaults x s).restoreWait = s.restoreWait
     ∧ (raiseFaults x s).notices = s.notices ∧ (raiseFaults x s).queueFull = s.queueFull
     ∧ (raiseFaults x s).halfArmed = s.halfArmed ∧ (raiseFaults x s).attention = s.attention
     ∧ (raiseFaults x s).receiver = s.receiver ∧ (raiseFaults x s).inputBuffer = s.inputBuffer
     ∧ (raiseFaults x s).outbound = s.outbound ∧ (raiseFaults x s).linkResetDue = s.linkResetDue
     ∧ (raiseFaults x s).timeBase = s.timeBase ∧ (raiseFaults x s).date = s.date
     ∧ (raiseFaults x s).supply = s.supply ∧ (raiseFaults x s).part = s.part
     ∧ (raiseFaults x s).lastCause = s.lastCause ∧ (raiseFaults x s).supplyHeld = s.supplyHeld
     ∧ (raiseFaults x s).lineHeld = s.lineHeld ∧ (raiseFaults x s).queries = s.queries
     ∧ (raiseFaults x s).incomplete = s.incomplete ∧ (raiseFaults x s).writeHold = s.writeHold
     ∧ (raiseFaults x s).passWrites = s.passWrites ∧ (raiseFaults x s).linkOut = s.linkOut
     ∧ (raiseFaults x s).chainOut = s.chainOut ∧ (raiseFaults x s).opCount = s.opCount
     ∧ (raiseFaults x s).freeCount = s.freeCount ∧ (raiseFaults x s).pending = s.pending := by
  cases x <;> simp [raiseFaults]

@[simp] theorem removeEntry_keeps (x : EntrySubject) (s : State) :
    (removeEntry x s).editions = s.editions ∧ (removeEntry x s).photos = s.photos
     ∧ (removeEntry x s).profiles = s.profiles ∧ (removeEntry x s).tariff = s.tariff
     ∧ (removeEntry x s).accounts = s.accounts ∧ (removeEntry x s).holders = s.holders
     ∧ (removeEntry x s).revenue = s.revenue ∧ (removeEntry x s).commitLimit = s.commitLimit
     ∧ (removeEntry x s).filter = s.filter ∧ (removeEntry x s).arm = s.arm ∧ (removeEntry x s).slots = s.slots
     ∧ (removeEntry x s).units = s.units ∧ (removeEntry x s).reads = s.reads ∧ (removeEntry x s).held2 = s.held2
     ∧ (removeEntry x s).held3 = s.held3 ∧ (removeEntry x s).staging = s.staging
     ∧ (removeEntry x s).tickets = s.tickets ∧ (removeEntry x s).nextTicket = s.nextTicket
     ∧ (removeEntry x s).jobs = s.jobs ∧ (removeEntry x s).nextJob = s.nextJob
     ∧ (removeEntry x s).engine = s.engine ∧ (removeEntry x s).orders = s.orders
     ∧ (removeEntry x s).nextOrder = s.nextOrder ∧ (removeEntry x s).slabWait = s.slabWait
     ∧ (removeEntry x s).restoreWait = s.restoreWait ∧ (removeEntry x s).notices = s.notices
     ∧ (removeEntry x s).queueFull = s.queueFull ∧ (removeEntry x s).halfArmed = s.halfArmed
     ∧ (removeEntry x s).attention = s.attention ∧ (removeEntry x s).receiver = s.receiver
     ∧ (removeEntry x s).inputBuffer = s.inputBuffer ∧ (removeEntry x s).outbound = s.outbound
     ∧ (removeEntry x s).linkResetDue = s.linkResetDue ∧ (removeEntry x s).timeBase = s.timeBase
     ∧ (removeEntry x s).date = s.date ∧ (removeEntry x s).supply = s.supply ∧ (removeEntry x s).part = s.part
     ∧ (removeEntry x s).lastCause = s.lastCause ∧ (removeEntry x s).supplyHeld = s.supplyHeld
     ∧ (removeEntry x s).lineHeld = s.lineHeld ∧ (removeEntry x s).queries = s.queries
     ∧ (removeEntry x s).incomplete = s.incomplete ∧ (removeEntry x s).writeHold = s.writeHold
     ∧ (removeEntry x s).passWrites = s.passWrites ∧ (removeEntry x s).linkOut = s.linkOut
     ∧ (removeEntry x s).chainOut = s.chainOut ∧ (removeEntry x s).opCount = s.opCount
     ∧ (removeEntry x s).freeCount = s.freeCount ∧ (removeEntry x s).pending = s.pending := by
  unfold removeEntry; try dsimp only
  (repeat' split) <;> simp

@[simp] theorem releaseSlot_keeps (k : Nat) (s : State) :
    (releaseSlot k s).editions = s.editions ∧ (releaseSlot k s).photos = s.photos
     ∧ (releaseSlot k s).profiles = s.profiles ∧ (releaseSlot k s).tariff = s.tariff
     ∧ (releaseSlot k s).accounts = s.accounts ∧ (releaseSlot k s).holders = s.holders
     ∧ (releaseSlot k s).revenue = s.revenue ∧ (releaseSlot k s).commitLimit = s.commitLimit
     ∧ (releaseSlot k s).filter = s.filter ∧ (releaseSlot k s).arm = s.arm ∧ (releaseSlot k s).queue = s.queue
     ∧ (releaseSlot k s).units = s.units ∧ (releaseSlot k s).reads = s.reads ∧ (releaseSlot k s).held2 = s.held2
     ∧ (releaseSlot k s).held3 = s.held3 ∧ (releaseSlot k s).staging = s.staging
     ∧ (releaseSlot k s).tickets = s.tickets ∧ (releaseSlot k s).nextTicket = s.nextTicket
     ∧ (releaseSlot k s).jobs = s.jobs ∧ (releaseSlot k s).nextJob = s.nextJob
     ∧ (releaseSlot k s).engine = s.engine ∧ (releaseSlot k s).orders = s.orders
     ∧ (releaseSlot k s).nextOrder = s.nextOrder ∧ (releaseSlot k s).slabWait = s.slabWait
     ∧ (releaseSlot k s).restoreWait = s.restoreWait ∧ (releaseSlot k s).notices = s.notices
     ∧ (releaseSlot k s).queueFull = s.queueFull ∧ (releaseSlot k s).halfArmed = s.halfArmed
     ∧ (releaseSlot k s).attention = s.attention ∧ (releaseSlot k s).receiver = s.receiver
     ∧ (releaseSlot k s).inputBuffer = s.inputBuffer ∧ (releaseSlot k s).outbound = s.outbound
     ∧ (releaseSlot k s).linkResetDue = s.linkResetDue ∧ (releaseSlot k s).timeBase = s.timeBase
     ∧ (releaseSlot k s).date = s.date ∧ (releaseSlot k s).supply = s.supply ∧ (releaseSlot k s).part = s.part
     ∧ (releaseSlot k s).lastCause = s.lastCause ∧ (releaseSlot k s).supplyHeld = s.supplyHeld
     ∧ (releaseSlot k s).lineHeld = s.lineHeld ∧ (releaseSlot k s).queries = s.queries
     ∧ (releaseSlot k s).incomplete = s.incomplete ∧ (releaseSlot k s).writeHold = s.writeHold
     ∧ (releaseSlot k s).passWrites = s.passWrites ∧ (releaseSlot k s).linkOut = s.linkOut
     ∧ (releaseSlot k s).chainOut = s.chainOut ∧ (releaseSlot k s).opCount = s.opCount
     ∧ (releaseSlot k s).freeCount = s.freeCount ∧ (releaseSlot k s).pending = s.pending := by
  unfold releaseSlot; try dsimp only
  (repeat' split) <;> simp

@[simp] theorem releaseSlotOf_keeps (x : Subject) (s : State) :
    (releaseSlotOf x s).editions = s.editions ∧ (releaseSlotOf x s).photos = s.photos
     ∧ (releaseSlotOf x s).profiles = s.profiles ∧ (releaseSlotOf x s).tariff = s.tariff
     ∧ (releaseSlotOf x s).accounts = s.accounts ∧ (releaseSlotOf x s).holders = s.holders
     ∧ (releaseSlotOf x s).revenue = s.revenue ∧ (releaseSlotOf x s).commitLimit = s.commitLimit
     ∧ (releaseSlotOf x s).filter = s.filter ∧ (releaseSlotOf x s).arm = s.arm
     ∧ (releaseSlotOf x s).queue = s.queue ∧ (releaseSlotOf x s).units = s.units
     ∧ (releaseSlotOf x s).reads = s.reads ∧ (releaseSlotOf x s).held2 = s.held2
     ∧ (releaseSlotOf x s).held3 = s.held3 ∧ (releaseSlotOf x s).staging = s.staging
     ∧ (releaseSlotOf x s).tickets = s.tickets ∧ (releaseSlotOf x s).nextTicket = s.nextTicket
     ∧ (releaseSlotOf x s).jobs = s.jobs ∧ (releaseSlotOf x s).nextJob = s.nextJob
     ∧ (releaseSlotOf x s).engine = s.engine ∧ (releaseSlotOf x s).orders = s.orders
     ∧ (releaseSlotOf x s).nextOrder = s.nextOrder ∧ (releaseSlotOf x s).slabWait = s.slabWait
     ∧ (releaseSlotOf x s).restoreWait = s.restoreWait ∧ (releaseSlotOf x s).notices = s.notices
     ∧ (releaseSlotOf x s).queueFull = s.queueFull ∧ (releaseSlotOf x s).halfArmed = s.halfArmed
     ∧ (releaseSlotOf x s).attention = s.attention ∧ (releaseSlotOf x s).receiver = s.receiver
     ∧ (releaseSlotOf x s).inputBuffer = s.inputBuffer ∧ (releaseSlotOf x s).outbound = s.outbound
     ∧ (releaseSlotOf x s).linkResetDue = s.linkResetDue ∧ (releaseSlotOf x s).timeBase = s.timeBase
     ∧ (releaseSlotOf x s).date = s.date ∧ (releaseSlotOf x s).supply = s.supply
     ∧ (releaseSlotOf x s).part = s.part ∧ (releaseSlotOf x s).lastCause = s.lastCause
     ∧ (releaseSlotOf x s).supplyHeld = s.supplyHeld ∧ (releaseSlotOf x s).lineHeld = s.lineHeld
     ∧ (releaseSlotOf x s).queries = s.queries ∧ (releaseSlotOf x s).incomplete = s.incomplete
     ∧ (releaseSlotOf x s).writeHold = s.writeHold ∧ (releaseSlotOf x s).passWrites = s.passWrites
     ∧ (releaseSlotOf x s).linkOut = s.linkOut ∧ (releaseSlotOf x s).chainOut = s.chainOut
     ∧ (releaseSlotOf x s).opCount = s.opCount ∧ (releaseSlotOf x s).freeCount = s.freeCount
     ∧ (releaseSlotOf x s).pending = s.pending := by
  unfold releaseSlotOf; try dsimp only
  (repeat' split) <;> simp

@[simp] theorem bindSlot_keeps (k : Nat) (x : Subject) (g : SlotKind) (n : Nat) (c : Check) (s : State) :
    (bindSlot k x g n c s).editions = s.editions ∧ (bindSlot k x g n c s).photos = s.photos
     ∧ (bindSlot k x g n c s).profiles = s.profiles ∧ (bindSlot k x g n c s).tariff = s.tariff
     ∧ (bindSlot k x g n c s).accounts = s.accounts ∧ (bindSlot k x g n c s).holders = s.holders
     ∧ (bindSlot k x g n c s).revenue = s.revenue ∧ (bindSlot k x g n c s).commitLimit = s.commitLimit
     ∧ (bindSlot k x g n c s).filter = s.filter ∧ (bindSlot k x g n c s).arm = s.arm
     ∧ (bindSlot k x g n c s).queue = s.queue ∧ (bindSlot k x g n c s).units = s.units
     ∧ (bindSlot k x g n c s).reads = s.reads ∧ (bindSlot k x g n c s).held2 = s.held2
     ∧ (bindSlot k x g n c s).held3 = s.held3 ∧ (bindSlot k x g n c s).staging = s.staging
     ∧ (bindSlot k x g n c s).tickets = s.tickets ∧ (bindSlot k x g n c s).nextTicket = s.nextTicket
     ∧ (bindSlot k x g n c s).jobs = s.jobs ∧ (bindSlot k x g n c s).nextJob = s.nextJob
     ∧ (bindSlot k x g n c s).engine = s.engine ∧ (bindSlot k x g n c s).orders = s.orders
     ∧ (bindSlot k x g n c s).nextOrder = s.nextOrder ∧ (bindSlot k x g n c s).slabWait = s.slabWait
     ∧ (bindSlot k x g n c s).restoreWait = s.restoreWait ∧ (bindSlot k x g n c s).notices = s.notices
     ∧ (bindSlot k x g n c s).queueFull = s.queueFull ∧ (bindSlot k x g n c s).halfArmed = s.halfArmed
     ∧ (bindSlot k x g n c s).attention = s.attention ∧ (bindSlot k x g n c s).receiver = s.receiver
     ∧ (bindSlot k x g n c s).inputBuffer = s.inputBuffer ∧ (bindSlot k x g n c s).outbound = s.outbound
     ∧ (bindSlot k x g n c s).linkResetDue = s.linkResetDue ∧ (bindSlot k x g n c s).timeBase = s.timeBase
     ∧ (bindSlot k x g n c s).date = s.date ∧ (bindSlot k x g n c s).supply = s.supply
     ∧ (bindSlot k x g n c s).part = s.part ∧ (bindSlot k x g n c s).lastCause = s.lastCause
     ∧ (bindSlot k x g n c s).supplyHeld = s.supplyHeld ∧ (bindSlot k x g n c s).lineHeld = s.lineHeld
     ∧ (bindSlot k x g n c s).queries = s.queries ∧ (bindSlot k x g n c s).incomplete = s.incomplete
     ∧ (bindSlot k x g n c s).writeHold = s.writeHold ∧ (bindSlot k x g n c s).passWrites = s.passWrites
     ∧ (bindSlot k x g n c s).linkOut = s.linkOut ∧ (bindSlot k x g n c s).chainOut = s.chainOut
     ∧ (bindSlot k x g n c s).opCount = s.opCount ∧ (bindSlot k x g n c s).pending = s.pending := by
  simp [bindSlot]

@[simp] theorem giveBackPlate_keeps (r : PlateRef) (p : Plate) (s : State) :
    (giveBackPlate r p s).editions = s.editions ∧ (giveBackPlate r p s).photos = s.photos
     ∧ (giveBackPlate r p s).profiles = s.profiles ∧ (giveBackPlate r p s).tariff = s.tariff
     ∧ (giveBackPlate r p s).accounts = s.accounts ∧ (giveBackPlate r p s).holders = s.holders
     ∧ (giveBackPlate r p s).revenue = s.revenue ∧ (giveBackPlate r p s).commitLimit = s.commitLimit
     ∧ (giveBackPlate r p s).filter = s.filter ∧ (giveBackPlate r p s).arm = s.arm
     ∧ (giveBackPlate r p s).reads = s.reads ∧ (giveBackPlate r p s).held2 = s.held2
     ∧ (giveBackPlate r p s).held3 = s.held3 ∧ (giveBackPlate r p s).staging = s.staging
     ∧ (giveBackPlate r p s).tickets = s.tickets ∧ (giveBackPlate r p s).nextTicket = s.nextTicket
     ∧ (giveBackPlate r p s).jobs = s.jobs ∧ (giveBackPlate r p s).nextJob = s.nextJob
     ∧ (giveBackPlate r p s).engine = s.engine ∧ (giveBackPlate r p s).orders = s.orders
     ∧ (giveBackPlate r p s).nextOrder = s.nextOrder ∧ (giveBackPlate r p s).slabWait = s.slabWait
     ∧ (giveBackPlate r p s).restoreWait = s.restoreWait ∧ (giveBackPlate r p s).notices = s.notices
     ∧ (giveBackPlate r p s).queueFull = s.queueFull ∧ (giveBackPlate r p s).halfArmed = s.halfArmed
     ∧ (giveBackPlate r p s).attention = s.attention ∧ (giveBackPlate r p s).receiver = s.receiver
     ∧ (giveBackPlate r p s).inputBuffer = s.inputBuffer ∧ (giveBackPlate r p s).outbound = s.outbound
     ∧ (giveBackPlate r p s).linkResetDue = s.linkResetDue ∧ (giveBackPlate r p s).timeBase = s.timeBase
     ∧ (giveBackPlate r p s).date = s.date ∧ (giveBackPlate r p s).supply = s.supply
     ∧ (giveBackPlate r p s).part = s.part ∧ (giveBackPlate r p s).lastCause = s.lastCause
     ∧ (giveBackPlate r p s).supplyHeld = s.supplyHeld ∧ (giveBackPlate r p s).lineHeld = s.lineHeld
     ∧ (giveBackPlate r p s).queries = s.queries ∧ (giveBackPlate r p s).incomplete = s.incomplete
     ∧ (giveBackPlate r p s).writeHold = s.writeHold ∧ (giveBackPlate r p s).passWrites = s.passWrites
     ∧ (giveBackPlate r p s).linkOut = s.linkOut ∧ (giveBackPlate r p s).opCount = s.opCount
     ∧ (giveBackPlate r p s).freeCount = s.freeCount ∧ (giveBackPlate r p s).pending = s.pending := by
  unfold giveBackPlate
  cases p.state <;> simp
  cases p.location <;> cases p.restored <;> simp

@[simp] theorem removePlate_keeps (r : PlateRef) (p : Plate) (s : State) :
    (removePlate r p s).profiles = s.profiles ∧ (removePlate r p s).tariff = s.tariff
     ∧ (removePlate r p s).accounts = s.accounts ∧ (removePlate r p s).holders = s.holders
     ∧ (removePlate r p s).revenue = s.revenue ∧ (removePlate r p s).commitLimit = s.commitLimit
     ∧ (removePlate r p s).filter = s.filter ∧ (removePlate r p s).arm = s.arm
     ∧ (removePlate r p s).reads = s.reads ∧ (removePlate r p s).held2 = s.held2
     ∧ (removePlate r p s).held3 = s.held3 ∧ (removePlate r p s).staging = s.staging
     ∧ (removePlate r p s).tickets = s.tickets ∧ (removePlate r p s).nextTicket = s.nextTicket
     ∧ (removePlate r p s).jobs = s.jobs ∧ (removePlate r p s).nextJob = s.nextJob
     ∧ (removePlate r p s).engine = s.engine ∧ (removePlate r p s).orders = s.orders
     ∧ (removePlate r p s).nextOrder = s.nextOrder ∧ (removePlate r p s).slabWait = s.slabWait
     ∧ (removePlate r p s).restoreWait = s.restoreWait ∧ (removePlate r p s).notices = s.notices
     ∧ (removePlate r p s).queueFull = s.queueFull ∧ (removePlate r p s).halfArmed = s.halfArmed
     ∧ (removePlate r p s).attention = s.attention ∧ (removePlate r p s).receiver = s.receiver
     ∧ (removePlate r p s).inputBuffer = s.inputBuffer ∧ (removePlate r p s).outbound = s.outbound
     ∧ (removePlate r p s).linkResetDue = s.linkResetDue ∧ (removePlate r p s).timeBase = s.timeBase
     ∧ (removePlate r p s).date = s.date ∧ (removePlate r p s).supply = s.supply
     ∧ (removePlate r p s).part = s.part ∧ (removePlate r p s).lastCause = s.lastCause
     ∧ (removePlate r p s).supplyHeld = s.supplyHeld ∧ (removePlate r p s).lineHeld = s.lineHeld
     ∧ (removePlate r p s).queries = s.queries ∧ (removePlate r p s).incomplete = s.incomplete
     ∧ (removePlate r p s).writeHold = s.writeHold ∧ (removePlate r p s).passWrites = s.passWrites
     ∧ (removePlate r p s).linkOut = s.linkOut ∧ (removePlate r p s).opCount = s.opCount
     ∧ (removePlate r p s).freeCount = s.freeCount ∧ (removePlate r p s).pending = s.pending := by
  simp [removePlate]

@[simp] theorem freeTicket_keeps (t : Ticket) (s : State) :
    (freeTicket t s).editions = s.editions ∧ (freeTicket t s).photos = s.photos
     ∧ (freeTicket t s).profiles = s.profiles ∧ (freeTicket t s).tariff = s.tariff
     ∧ (freeTicket t s).accounts = s.accounts ∧ (freeTicket t s).holders = s.holders
     ∧ (freeTicket t s).revenue = s.revenue ∧ (freeTicket t s).commitLimit = s.commitLimit
     ∧ (freeTicket t s).filter = s.filter ∧ (freeTicket t s).arm = s.arm ∧ (freeTicket t s).slots = s.slots
     ∧ (freeTicket t s).queue = s.queue ∧ (freeTicket t s).held2 = s.held2 ∧ (freeTicket t s).held3 = s.held3
     ∧ (freeTicket t s).staging = s.staging ∧ (freeTicket t s).nextTicket = s.nextTicket
     ∧ (freeTicket t s).jobs = s.jobs ∧ (freeTicket t s).nextJob = s.nextJob
     ∧ (freeTicket t s).engine = s.engine ∧ (freeTicket t s).orders = s.orders
     ∧ (freeTicket t s).nextOrder = s.nextOrder ∧ (freeTicket t s).slabWait = s.slabWait
     ∧ (freeTicket t s).restoreWait = s.restoreWait ∧ (freeTicket t s).notices = s.notices
     ∧ (freeTicket t s).queueFull = s.queueFull ∧ (freeTicket t s).halfArmed = s.halfArmed
     ∧ (freeTicket t s).attention = s.attention ∧ (freeTicket t s).receiver = s.receiver
     ∧ (freeTicket t s).inputBuffer = s.inputBuffer ∧ (freeTicket t s).outbound = s.outbound
     ∧ (freeTicket t s).linkResetDue = s.linkResetDue ∧ (freeTicket t s).timeBase = s.timeBase
     ∧ (freeTicket t s).date = s.date ∧ (freeTicket t s).supply = s.supply ∧ (freeTicket t s).part = s.part
     ∧ (freeTicket t s).lastCause = s.lastCause ∧ (freeTicket t s).supplyHeld = s.supplyHeld
     ∧ (freeTicket t s).lineHeld = s.lineHeld ∧ (freeTicket t s).queries = s.queries
     ∧ (freeTicket t s).incomplete = s.incomplete ∧ (freeTicket t s).writeHold = s.writeHold
     ∧ (freeTicket t s).passWrites = s.passWrites ∧ (freeTicket t s).linkOut = s.linkOut
     ∧ (freeTicket t s).chainOut = s.chainOut ∧ (freeTicket t s).opCount = s.opCount
     ∧ (freeTicket t s).freeCount = s.freeCount ∧ (freeTicket t s).pending = s.pending := by
  simp [freeTicket]

@[simp] theorem endJob_keeps (j : Job) (s : State) :
    (endJob j s).editions = s.editions ∧ (endJob j s).photos = s.photos ∧ (endJob j s).profiles = s.profiles
     ∧ (endJob j s).tariff = s.tariff ∧ (endJob j s).accounts = s.accounts ∧ (endJob j s).holders = s.holders
     ∧ (endJob j s).revenue = s.revenue ∧ (endJob j s).commitLimit = s.commitLimit
     ∧ (endJob j s).filter = s.filter ∧ (endJob j s).arm = s.arm ∧ (endJob j s).slots = s.slots
     ∧ (endJob j s).queue = s.queue ∧ (endJob j s).held2 = s.held2 ∧ (endJob j s).held3 = s.held3
     ∧ (endJob j s).staging = s.staging ∧ (endJob j s).tickets = s.tickets
     ∧ (endJob j s).nextTicket = s.nextTicket ∧ (endJob j s).nextJob = s.nextJob
     ∧ (endJob j s).orders = s.orders ∧ (endJob j s).nextOrder = s.nextOrder
     ∧ (endJob j s).slabWait = s.slabWait ∧ (endJob j s).restoreWait = s.restoreWait
     ∧ (endJob j s).notices = s.notices ∧ (endJob j s).queueFull = s.queueFull
     ∧ (endJob j s).halfArmed = s.halfArmed ∧ (endJob j s).attention = s.attention
     ∧ (endJob j s).receiver = s.receiver ∧ (endJob j s).inputBuffer = s.inputBuffer
     ∧ (endJob j s).outbound = s.outbound ∧ (endJob j s).linkResetDue = s.linkResetDue
     ∧ (endJob j s).timeBase = s.timeBase ∧ (endJob j s).date = s.date ∧ (endJob j s).supply = s.supply
     ∧ (endJob j s).part = s.part ∧ (endJob j s).lastCause = s.lastCause
     ∧ (endJob j s).supplyHeld = s.supplyHeld ∧ (endJob j s).lineHeld = s.lineHeld
     ∧ (endJob j s).queries = s.queries ∧ (endJob j s).incomplete = s.incomplete
     ∧ (endJob j s).writeHold = s.writeHold ∧ (endJob j s).passWrites = s.passWrites
     ∧ (endJob j s).linkOut = s.linkOut ∧ (endJob j s).chainOut = s.chainOut ∧ (endJob j s).opCount = s.opCount
     ∧ (endJob j s).freeCount = s.freeCount ∧ (endJob j s).pending = s.pending := by
  simp [endJob]

@[simp] theorem raiseJobFailed_keeps (j : Job) (w : JobEnd) (n : Nat) (s : State) :
    (raiseJobFailed j w n s).editions = s.editions ∧ (raiseJobFailed j w n s).photos = s.photos
     ∧ (raiseJobFailed j w n s).profiles = s.profiles ∧ (raiseJobFailed j w n s).tariff = s.tariff
     ∧ (raiseJobFailed j w n s).accounts = s.accounts ∧ (raiseJobFailed j w n s).holders = s.holders
     ∧ (raiseJobFailed j w n s).revenue = s.revenue ∧ (raiseJobFailed j w n s).commitLimit = s.commitLimit
     ∧ (raiseJobFailed j w n s).filter = s.filter ∧ (raiseJobFailed j w n s).arm = s.arm
     ∧ (raiseJobFailed j w n s).slots = s.slots ∧ (raiseJobFailed j w n s).queue = s.queue
     ∧ (raiseJobFailed j w n s).units = s.units ∧ (raiseJobFailed j w n s).reads = s.reads
     ∧ (raiseJobFailed j w n s).held2 = s.held2 ∧ (raiseJobFailed j w n s).held3 = s.held3
     ∧ (raiseJobFailed j w n s).free = s.free ∧ (raiseJobFailed j w n s).staging = s.staging
     ∧ (raiseJobFailed j w n s).tickets = s.tickets ∧ (raiseJobFailed j w n s).nextTicket = s.nextTicket
     ∧ (raiseJobFailed j w n s).jobs = s.jobs ∧ (raiseJobFailed j w n s).nextJob = s.nextJob
     ∧ (raiseJobFailed j w n s).engine = s.engine ∧ (raiseJobFailed j w n s).orders = s.orders
     ∧ (raiseJobFailed j w n s).nextOrder = s.nextOrder ∧ (raiseJobFailed j w n s).slabWait = s.slabWait
     ∧ (raiseJobFailed j w n s).restoreWait = s.restoreWait ∧ (raiseJobFailed j w n s).receiver = s.receiver
     ∧ (raiseJobFailed j w n s).inputBuffer = s.inputBuffer ∧ (raiseJobFailed j w n s).outbound = s.outbound
     ∧ (raiseJobFailed j w n s).linkResetDue = s.linkResetDue ∧ (raiseJobFailed j w n s).timeBase = s.timeBase
     ∧ (raiseJobFailed j w n s).date = s.date ∧ (raiseJobFailed j w n s).supply = s.supply
     ∧ (raiseJobFailed j w n s).part = s.part ∧ (raiseJobFailed j w n s).lastCause = s.lastCause
     ∧ (raiseJobFailed j w n s).supplyHeld = s.supplyHeld ∧ (raiseJobFailed j w n s).lineHeld = s.lineHeld
     ∧ (raiseJobFailed j w n s).queries = s.queries ∧ (raiseJobFailed j w n s).incomplete = s.incomplete
     ∧ (raiseJobFailed j w n s).writeHold = s.writeHold ∧ (raiseJobFailed j w n s).passWrites = s.passWrites
     ∧ (raiseJobFailed j w n s).linkOut = s.linkOut ∧ (raiseJobFailed j w n s).chainOut = s.chainOut
     ∧ (raiseJobFailed j w n s).opCount = s.opCount ∧ (raiseJobFailed j w n s).freeCount = s.freeCount
     ∧ (raiseJobFailed j w n s).pending = s.pending := by
  simp [raiseJobFailed]

@[simp] theorem setItemState_keeps (o i : Nat) (st : ItemState) (s : State) :
    (setItemState o i st s).editions = s.editions ∧ (setItemState o i st s).photos = s.photos
     ∧ (setItemState o i st s).profiles = s.profiles ∧ (setItemState o i st s).tariff = s.tariff
     ∧ (setItemState o i st s).accounts = s.accounts ∧ (setItemState o i st s).holders = s.holders
     ∧ (setItemState o i st s).revenue = s.revenue ∧ (setItemState o i st s).commitLimit = s.commitLimit
     ∧ (setItemState o i st s).filter = s.filter ∧ (setItemState o i st s).arm = s.arm
     ∧ (setItemState o i st s).slots = s.slots ∧ (setItemState o i st s).queue = s.queue
     ∧ (setItemState o i st s).units = s.units ∧ (setItemState o i st s).reads = s.reads
     ∧ (setItemState o i st s).held2 = s.held2 ∧ (setItemState o i st s).held3 = s.held3
     ∧ (setItemState o i st s).free = s.free ∧ (setItemState o i st s).staging = s.staging
     ∧ (setItemState o i st s).tickets = s.tickets ∧ (setItemState o i st s).nextTicket = s.nextTicket
     ∧ (setItemState o i st s).jobs = s.jobs ∧ (setItemState o i st s).nextJob = s.nextJob
     ∧ (setItemState o i st s).engine = s.engine ∧ (setItemState o i st s).nextOrder = s.nextOrder
     ∧ (setItemState o i st s).slabWait = s.slabWait ∧ (setItemState o i st s).restoreWait = s.restoreWait
     ∧ (setItemState o i st s).notices = s.notices ∧ (setItemState o i st s).queueFull = s.queueFull
     ∧ (setItemState o i st s).halfArmed = s.halfArmed ∧ (setItemState o i st s).attention = s.attention
     ∧ (setItemState o i st s).receiver = s.receiver ∧ (setItemState o i st s).inputBuffer = s.inputBuffer
     ∧ (setItemState o i st s).outbound = s.outbound ∧ (setItemState o i st s).linkResetDue = s.linkResetDue
     ∧ (setItemState o i st s).timeBase = s.timeBase ∧ (setItemState o i st s).date = s.date
     ∧ (setItemState o i st s).supply = s.supply ∧ (setItemState o i st s).part = s.part
     ∧ (setItemState o i st s).lastCause = s.lastCause ∧ (setItemState o i st s).supplyHeld = s.supplyHeld
     ∧ (setItemState o i st s).lineHeld = s.lineHeld ∧ (setItemState o i st s).queries = s.queries
     ∧ (setItemState o i st s).incomplete = s.incomplete ∧ (setItemState o i st s).writeHold = s.writeHold
     ∧ (setItemState o i st s).passWrites = s.passWrites ∧ (setItemState o i st s).linkOut = s.linkOut
     ∧ (setItemState o i st s).chainOut = s.chainOut ∧ (setItemState o i st s).opCount = s.opCount
     ∧ (setItemState o i st s).freeCount = s.freeCount ∧ (setItemState o i st s).pending = s.pending := by
  simp [setItemState]

@[simp] theorem leaveTurn_keeps (o i : Nat) (s : State) :
    (leaveTurn o i s).editions = s.editions ∧ (leaveTurn o i s).photos = s.photos
     ∧ (leaveTurn o i s).profiles = s.profiles ∧ (leaveTurn o i s).tariff = s.tariff
     ∧ (leaveTurn o i s).accounts = s.accounts ∧ (leaveTurn o i s).holders = s.holders
     ∧ (leaveTurn o i s).revenue = s.revenue ∧ (leaveTurn o i s).commitLimit = s.commitLimit
     ∧ (leaveTurn o i s).filter = s.filter ∧ (leaveTurn o i s).arm = s.arm ∧ (leaveTurn o i s).slots = s.slots
     ∧ (leaveTurn o i s).queue = s.queue ∧ (leaveTurn o i s).units = s.units ∧ (leaveTurn o i s).reads = s.reads
     ∧ (leaveTurn o i s).held2 = s.held2 ∧ (leaveTurn o i s).held3 = s.held3 ∧ (leaveTurn o i s).free = s.free
     ∧ (leaveTurn o i s).staging = s.staging ∧ (leaveTurn o i s).tickets = s.tickets
     ∧ (leaveTurn o i s).nextTicket = s.nextTicket ∧ (leaveTurn o i s).jobs = s.jobs
     ∧ (leaveTurn o i s).nextJob = s.nextJob ∧ (leaveTurn o i s).engine = s.engine
     ∧ (leaveTurn o i s).nextOrder = s.nextOrder ∧ (leaveTurn o i s).slabWait = s.slabWait
     ∧ (leaveTurn o i s).restoreWait = s.restoreWait ∧ (leaveTurn o i s).notices = s.notices
     ∧ (leaveTurn o i s).queueFull = s.queueFull ∧ (leaveTurn o i s).halfArmed = s.halfArmed
     ∧ (leaveTurn o i s).attention = s.attention ∧ (leaveTurn o i s).receiver = s.receiver
     ∧ (leaveTurn o i s).inputBuffer = s.inputBuffer ∧ (leaveTurn o i s).outbound = s.outbound
     ∧ (leaveTurn o i s).linkResetDue = s.linkResetDue ∧ (leaveTurn o i s).timeBase = s.timeBase
     ∧ (leaveTurn o i s).date = s.date ∧ (leaveTurn o i s).supply = s.supply ∧ (leaveTurn o i s).part = s.part
     ∧ (leaveTurn o i s).lastCause = s.lastCause ∧ (leaveTurn o i s).supplyHeld = s.supplyHeld
     ∧ (leaveTurn o i s).lineHeld = s.lineHeld ∧ (leaveTurn o i s).queries = s.queries
     ∧ (leaveTurn o i s).incomplete = s.incomplete ∧ (leaveTurn o i s).writeHold = s.writeHold
     ∧ (leaveTurn o i s).passWrites = s.passWrites ∧ (leaveTurn o i s).linkOut = s.linkOut
     ∧ (leaveTurn o i s).chainOut = s.chainOut ∧ (leaveTurn o i s).opCount = s.opCount
     ∧ (leaveTurn o i s).freeCount = s.freeCount ∧ (leaveTurn o i s).pending = s.pending := by
  simp [leaveTurn]

@[simp] theorem leaveJob_keeps (o i n : Nat) (s : State) :
    (leaveJob o i n s).editions = s.editions ∧ (leaveJob o i n s).photos = s.photos
     ∧ (leaveJob o i n s).profiles = s.profiles ∧ (leaveJob o i n s).tariff = s.tariff
     ∧ (leaveJob o i n s).accounts = s.accounts ∧ (leaveJob o i n s).holders = s.holders
     ∧ (leaveJob o i n s).revenue = s.revenue ∧ (leaveJob o i n s).commitLimit = s.commitLimit
     ∧ (leaveJob o i n s).filter = s.filter ∧ (leaveJob o i n s).arm = s.arm
     ∧ (leaveJob o i n s).slots = s.slots ∧ (leaveJob o i n s).queue = s.queue
     ∧ (leaveJob o i n s).held2 = s.held2 ∧ (leaveJob o i n s).held3 = s.held3
     ∧ (leaveJob o i n s).staging = s.staging ∧ (leaveJob o i n s).tickets = s.tickets
     ∧ (leaveJob o i n s).nextTicket = s.nextTicket ∧ (leaveJob o i n s).nextJob = s.nextJob
     ∧ (leaveJob o i n s).orders = s.orders ∧ (leaveJob o i n s).nextOrder = s.nextOrder
     ∧ (leaveJob o i n s).slabWait = s.slabWait ∧ (leaveJob o i n s).restoreWait = s.restoreWait
     ∧ (leaveJob o i n s).receiver = s.receiver ∧ (leaveJob o i n s).inputBuffer = s.inputBuffer
     ∧ (leaveJob o i n s).outbound = s.outbound ∧ (leaveJob o i n s).linkResetDue = s.linkResetDue
     ∧ (leaveJob o i n s).timeBase = s.timeBase ∧ (leaveJob o i n s).date = s.date
     ∧ (leaveJob o i n s).supply = s.supply ∧ (leaveJob o i n s).part = s.part
     ∧ (leaveJob o i n s).lastCause = s.lastCause ∧ (leaveJob o i n s).supplyHeld = s.supplyHeld
     ∧ (leaveJob o i n s).lineHeld = s.lineHeld ∧ (leaveJob o i n s).queries = s.queries
     ∧ (leaveJob o i n s).incomplete = s.incomplete ∧ (leaveJob o i n s).writeHold = s.writeHold
     ∧ (leaveJob o i n s).passWrites = s.passWrites ∧ (leaveJob o i n s).linkOut = s.linkOut
     ∧ (leaveJob o i n s).chainOut = s.chainOut ∧ (leaveJob o i n s).opCount = s.opCount
     ∧ (leaveJob o i n s).freeCount = s.freeCount ∧ (leaveJob o i n s).pending = s.pending := by
  unfold leaveJob; try dsimp only
  (repeat' split) <;> simp

@[simp] theorem giveUp_keeps (o i : Nat) (it : ItemRec) (s : State) :
    (giveUp o i it s).editions = s.editions ∧ (giveUp o i it s).photos = s.photos
     ∧ (giveUp o i it s).profiles = s.profiles ∧ (giveUp o i it s).tariff = s.tariff
     ∧ (giveUp o i it s).accounts = s.accounts ∧ (giveUp o i it s).holders = s.holders
     ∧ (giveUp o i it s).revenue = s.revenue ∧ (giveUp o i it s).commitLimit = s.commitLimit
     ∧ (giveUp o i it s).filter = s.filter ∧ (giveUp o i it s).arm = s.arm ∧ (giveUp o i it s).slots = s.slots
     ∧ (giveUp o i it s).queue = s.queue ∧ (giveUp o i it s).held2 = s.held2 ∧ (giveUp o i it s).held3 = s.held3
     ∧ (giveUp o i it s).staging = s.staging ∧ (giveUp o i it s).tickets = s.tickets
     ∧ (giveUp o i it s).nextTicket = s.nextTicket ∧ (giveUp o i it s).nextJob = s.nextJob
     ∧ (giveUp o i it s).orders = s.orders ∧ (giveUp o i it s).nextOrder = s.nextOrder
     ∧ (giveUp o i it s).receiver = s.receiver ∧ (giveUp o i it s).inputBuffer = s.inputBuffer
     ∧ (giveUp o i it s).outbound = s.outbound ∧ (giveUp o i it s).linkResetDue = s.linkResetDue
     ∧ (giveUp o i it s).timeBase = s.timeBase ∧ (giveUp o i it s).date = s.date
     ∧ (giveUp o i it s).supply = s.supply ∧ (giveUp o i it s).part = s.part
     ∧ (giveUp o i it s).lastCause = s.lastCause ∧ (giveUp o i it s).supplyHeld = s.supplyHeld
     ∧ (giveUp o i it s).lineHeld = s.lineHeld ∧ (giveUp o i it s).queries = s.queries
     ∧ (giveUp o i it s).incomplete = s.incomplete ∧ (giveUp o i it s).writeHold = s.writeHold
     ∧ (giveUp o i it s).passWrites = s.passWrites ∧ (giveUp o i it s).linkOut = s.linkOut
     ∧ (giveUp o i it s).chainOut = s.chainOut ∧ (giveUp o i it s).opCount = s.opCount
     ∧ (giveUp o i it s).freeCount = s.freeCount ∧ (giveUp o i it s).pending = s.pending := by
  unfold giveUp; try dsimp only
  (repeat' split) <;> simp

@[simp] theorem settleOrder_keeps (x : OrderRec) (s : State) :
    (settleOrder x s).editions = s.editions ∧ (settleOrder x s).photos = s.photos
     ∧ (settleOrder x s).profiles = s.profiles ∧ (settleOrder x s).tariff = s.tariff
     ∧ (settleOrder x s).commitLimit = s.commitLimit ∧ (settleOrder x s).filter = s.filter
     ∧ (settleOrder x s).arm = s.arm ∧ (settleOrder x s).slots = s.slots ∧ (settleOrder x s).queue = s.queue
     ∧ (settleOrder x s).units = s.units ∧ (settleOrder x s).reads = s.reads ∧ (settleOrder x s).held2 = s.held2
     ∧ (settleOrder x s).held3 = s.held3 ∧ (settleOrder x s).free = s.free
     ∧ (settleOrder x s).staging = s.staging ∧ (settleOrder x s).tickets = s.tickets
     ∧ (settleOrder x s).nextTicket = s.nextTicket ∧ (settleOrder x s).jobs = s.jobs
     ∧ (settleOrder x s).nextJob = s.nextJob ∧ (settleOrder x s).engine = s.engine
     ∧ (settleOrder x s).nextOrder = s.nextOrder ∧ (settleOrder x s).slabWait = s.slabWait
     ∧ (settleOrder x s).restoreWait = s.restoreWait ∧ (settleOrder x s).receiver = s.receiver
     ∧ (settleOrder x s).inputBuffer = s.inputBuffer ∧ (settleOrder x s).outbound = s.outbound
     ∧ (settleOrder x s).linkResetDue = s.linkResetDue ∧ (settleOrder x s).timeBase = s.timeBase
     ∧ (settleOrder x s).date = s.date ∧ (settleOrder x s).supply = s.supply ∧ (settleOrder x s).part = s.part
     ∧ (settleOrder x s).lastCause = s.lastCause ∧ (settleOrder x s).supplyHeld = s.supplyHeld
     ∧ (settleOrder x s).lineHeld = s.lineHeld ∧ (settleOrder x s).queries = s.queries
     ∧ (settleOrder x s).incomplete = s.incomplete ∧ (settleOrder x s).writeHold = s.writeHold
     ∧ (settleOrder x s).passWrites = s.passWrites ∧ (settleOrder x s).linkOut = s.linkOut
     ∧ (settleOrder x s).chainOut = s.chainOut ∧ (settleOrder x s).opCount = s.opCount
     ∧ (settleOrder x s).freeCount = s.freeCount ∧ (settleOrder x s).pending = s.pending := by
  simp [settleOrder]

@[simp] theorem settleIfDone_keeps (o : Nat) (s : State) :
    (settleIfDone o s).editions = s.editions ∧ (settleIfDone o s).photos = s.photos
     ∧ (settleIfDone o s).profiles = s.profiles ∧ (settleIfDone o s).tariff = s.tariff
     ∧ (settleIfDone o s).commitLimit = s.commitLimit ∧ (settleIfDone o s).filter = s.filter
     ∧ (settleIfDone o s).arm = s.arm ∧ (settleIfDone o s).slots = s.slots ∧ (settleIfDone o s).queue = s.queue
     ∧ (settleIfDone o s).units = s.units ∧ (settleIfDone o s).reads = s.reads
     ∧ (settleIfDone o s).held2 = s.held2 ∧ (settleIfDone o s).held3 = s.held3
     ∧ (settleIfDone o s).free = s.free ∧ (settleIfDone o s).staging = s.staging
     ∧ (settleIfDone o s).tickets = s.tickets ∧ (settleIfDone o s).nextTicket = s.nextTicket
     ∧ (settleIfDone o s).jobs = s.jobs ∧ (settleIfDone o s).nextJob = s.nextJob
     ∧ (settleIfDone o s).engine = s.engine ∧ (settleIfDone o s).nextOrder = s.nextOrder
     ∧ (settleIfDone o s).slabWait = s.slabWait ∧ (settleIfDone o s).restoreWait = s.restoreWait
     ∧ (settleIfDone o s).receiver = s.receiver ∧ (settleIfDone o s).inputBuffer = s.inputBuffer
     ∧ (settleIfDone o s).outbound = s.outbound ∧ (settleIfDone o s).linkResetDue = s.linkResetDue
     ∧ (settleIfDone o s).timeBase = s.timeBase ∧ (settleIfDone o s).date = s.date
     ∧ (settleIfDone o s).supply = s.supply ∧ (settleIfDone o s).part = s.part
     ∧ (settleIfDone o s).lastCause = s.lastCause ∧ (settleIfDone o s).supplyHeld = s.supplyHeld
     ∧ (settleIfDone o s).lineHeld = s.lineHeld ∧ (settleIfDone o s).queries = s.queries
     ∧ (settleIfDone o s).incomplete = s.incomplete ∧ (settleIfDone o s).writeHold = s.writeHold
     ∧ (settleIfDone o s).passWrites = s.passWrites ∧ (settleIfDone o s).linkOut = s.linkOut
     ∧ (settleIfDone o s).chainOut = s.chainOut ∧ (settleIfDone o s).opCount = s.opCount
     ∧ (settleIfDone o s).freeCount = s.freeCount ∧ (settleIfDone o s).pending = s.pending := by
  unfold settleIfDone; try dsimp only
  (repeat' split) <;> simp

@[simp] theorem raiseItemCancelled_keeps (o i : Nat) (r : CancelReason) (s : State) :
    (raiseItemCancelled o i r s).editions = s.editions ∧ (raiseItemCancelled o i r s).photos = s.photos
     ∧ (raiseItemCancelled o i r s).profiles = s.profiles ∧ (raiseItemCancelled o i r s).tariff = s.tariff
     ∧ (raiseItemCancelled o i r s).accounts = s.accounts ∧ (raiseItemCancelled o i r s).holders = s.holders
     ∧ (raiseItemCancelled o i r s).revenue = s.revenue
     ∧ (raiseItemCancelled o i r s).commitLimit = s.commitLimit ∧ (raiseItemCancelled o i r s).filter = s.filter
     ∧ (raiseItemCancelled o i r s).arm = s.arm ∧ (raiseItemCancelled o i r s).slots = s.slots
     ∧ (raiseItemCancelled o i r s).queue = s.queue ∧ (raiseItemCancelled o i r s).units = s.units
     ∧ (raiseItemCancelled o i r s).reads = s.reads ∧ (raiseItemCancelled o i r s).held2 = s.held2
     ∧ (raiseItemCancelled o i r s).held3 = s.held3 ∧ (raiseItemCancelled o i r s).free = s.free
     ∧ (raiseItemCancelled o i r s).staging = s.staging ∧ (raiseItemCancelled o i r s).tickets = s.tickets
     ∧ (raiseItemCancelled o i r s).nextTicket = s.nextTicket ∧ (raiseItemCancelled o i r s).jobs = s.jobs
     ∧ (raiseItemCancelled o i r s).nextJob = s.nextJob ∧ (raiseItemCancelled o i r s).engine = s.engine
     ∧ (raiseItemCancelled o i r s).orders = s.orders ∧ (raiseItemCancelled o i r s).nextOrder = s.nextOrder
     ∧ (raiseItemCancelled o i r s).slabWait = s.slabWait
     ∧ (raiseItemCancelled o i r s).restoreWait = s.restoreWait
     ∧ (raiseItemCancelled o i r s).receiver = s.receiver
     ∧ (raiseItemCancelled o i r s).inputBuffer = s.inputBuffer
     ∧ (raiseItemCancelled o i r s).outbound = s.outbound
     ∧ (raiseItemCancelled o i r s).linkResetDue = s.linkResetDue
     ∧ (raiseItemCancelled o i r s).timeBase = s.timeBase ∧ (raiseItemCancelled o i r s).date = s.date
     ∧ (raiseItemCancelled o i r s).supply = s.supply ∧ (raiseItemCancelled o i r s).part = s.part
     ∧ (raiseItemCancelled o i r s).lastCause = s.lastCause
     ∧ (raiseItemCancelled o i r s).supplyHeld = s.supplyHeld
     ∧ (raiseItemCancelled o i r s).lineHeld = s.lineHeld ∧ (raiseItemCancelled o i r s).queries = s.queries
     ∧ (raiseItemCancelled o i r s).incomplete = s.incomplete
     ∧ (raiseItemCancelled o i r s).writeHold = s.writeHold
     ∧ (raiseItemCancelled o i r s).passWrites = s.passWrites ∧ (raiseItemCancelled o i r s).linkOut = s.linkOut
     ∧ (raiseItemCancelled o i r s).chainOut = s.chainOut ∧ (raiseItemCancelled o i r s).opCount = s.opCount
     ∧ (raiseItemCancelled o i r s).freeCount = s.freeCount ∧ (raiseItemCancelled o i r s).pending = s.pending := by
  unfold raiseItemCancelled; try dsimp only
  (repeat' split) <;> simp

@[simp] theorem cancelItem_keeps (o i : Nat) (r : CancelReason) (s : State) :
    (cancelItem o i r s).1.editions = s.editions ∧ (cancelItem o i r s).1.photos = s.photos
     ∧ (cancelItem o i r s).1.profiles = s.profiles ∧ (cancelItem o i r s).1.tariff = s.tariff
     ∧ (cancelItem o i r s).1.commitLimit = s.commitLimit ∧ (cancelItem o i r s).1.filter = s.filter
     ∧ (cancelItem o i r s).1.arm = s.arm ∧ (cancelItem o i r s).1.slots = s.slots
     ∧ (cancelItem o i r s).1.queue = s.queue ∧ (cancelItem o i r s).1.held2 = s.held2
     ∧ (cancelItem o i r s).1.held3 = s.held3 ∧ (cancelItem o i r s).1.staging = s.staging
     ∧ (cancelItem o i r s).1.tickets = s.tickets ∧ (cancelItem o i r s).1.nextTicket = s.nextTicket
     ∧ (cancelItem o i r s).1.nextJob = s.nextJob ∧ (cancelItem o i r s).1.nextOrder = s.nextOrder
     ∧ (cancelItem o i r s).1.receiver = s.receiver ∧ (cancelItem o i r s).1.inputBuffer = s.inputBuffer
     ∧ (cancelItem o i r s).1.outbound = s.outbound ∧ (cancelItem o i r s).1.linkResetDue = s.linkResetDue
     ∧ (cancelItem o i r s).1.timeBase = s.timeBase ∧ (cancelItem o i r s).1.date = s.date
     ∧ (cancelItem o i r s).1.supply = s.supply ∧ (cancelItem o i r s).1.part = s.part
     ∧ (cancelItem o i r s).1.lastCause = s.lastCause ∧ (cancelItem o i r s).1.supplyHeld = s.supplyHeld
     ∧ (cancelItem o i r s).1.lineHeld = s.lineHeld ∧ (cancelItem o i r s).1.queries = s.queries
     ∧ (cancelItem o i r s).1.incomplete = s.incomplete ∧ (cancelItem o i r s).1.writeHold = s.writeHold
     ∧ (cancelItem o i r s).1.passWrites = s.passWrites ∧ (cancelItem o i r s).1.linkOut = s.linkOut
     ∧ (cancelItem o i r s).1.chainOut = s.chainOut ∧ (cancelItem o i r s).1.opCount = s.opCount
     ∧ (cancelItem o i r s).1.freeCount = s.freeCount ∧ (cancelItem o i r s).1.pending = s.pending := by
  unfold cancelItem; try dsimp only
  (repeat' split) <;> simp

@[simp] theorem raiseFetchFailed_keeps (r : Read) (c : Nat) (s : State) :
    (raiseFetchFailed r c s).editions = s.editions ∧ (raiseFetchFailed r c s).photos = s.photos
     ∧ (raiseFetchFailed r c s).profiles = s.profiles ∧ (raiseFetchFailed r c s).tariff = s.tariff
     ∧ (raiseFetchFailed r c s).accounts = s.accounts ∧ (raiseFetchFailed r c s).holders = s.holders
     ∧ (raiseFetchFailed r c s).revenue = s.revenue ∧ (raiseFetchFailed r c s).commitLimit = s.commitLimit
     ∧ (raiseFetchFailed r c s).filter = s.filter ∧ (raiseFetchFailed r c s).arm = s.arm
     ∧ (raiseFetchFailed r c s).slots = s.slots ∧ (raiseFetchFailed r c s).queue = s.queue
     ∧ (raiseFetchFailed r c s).units = s.units ∧ (raiseFetchFailed r c s).reads = s.reads
     ∧ (raiseFetchFailed r c s).held2 = s.held2 ∧ (raiseFetchFailed r c s).held3 = s.held3
     ∧ (raiseFetchFailed r c s).free = s.free ∧ (raiseFetchFailed r c s).staging = s.staging
     ∧ (raiseFetchFailed r c s).tickets = s.tickets ∧ (raiseFetchFailed r c s).nextTicket = s.nextTicket
     ∧ (raiseFetchFailed r c s).jobs = s.jobs ∧ (raiseFetchFailed r c s).nextJob = s.nextJob
     ∧ (raiseFetchFailed r c s).engine = s.engine ∧ (raiseFetchFailed r c s).orders = s.orders
     ∧ (raiseFetchFailed r c s).nextOrder = s.nextOrder ∧ (raiseFetchFailed r c s).slabWait = s.slabWait
     ∧ (raiseFetchFailed r c s).restoreWait = s.restoreWait ∧ (raiseFetchFailed r c s).receiver = s.receiver
     ∧ (raiseFetchFailed r c s).inputBuffer = s.inputBuffer ∧ (raiseFetchFailed r c s).outbound = s.outbound
     ∧ (raiseFetchFailed r c s).linkResetDue = s.linkResetDue ∧ (raiseFetchFailed r c s).timeBase = s.timeBase
     ∧ (raiseFetchFailed r c s).date = s.date ∧ (raiseFetchFailed r c s).supply = s.supply
     ∧ (raiseFetchFailed r c s).part = s.part ∧ (raiseFetchFailed r c s).lastCause = s.lastCause
     ∧ (raiseFetchFailed r c s).supplyHeld = s.supplyHeld ∧ (raiseFetchFailed r c s).lineHeld = s.lineHeld
     ∧ (raiseFetchFailed r c s).queries = s.queries ∧ (raiseFetchFailed r c s).incomplete = s.incomplete
     ∧ (raiseFetchFailed r c s).writeHold = s.writeHold ∧ (raiseFetchFailed r c s).passWrites = s.passWrites
     ∧ (raiseFetchFailed r c s).linkOut = s.linkOut ∧ (raiseFetchFailed r c s).chainOut = s.chainOut
     ∧ (raiseFetchFailed r c s).opCount = s.opCount ∧ (raiseFetchFailed r c s).freeCount = s.freeCount
     ∧ (raiseFetchFailed r c s).pending = s.pending := by
  simp [raiseFetchFailed]

@[simp] theorem detachItems_keeps (l : List (Nat × Nat)) (s : State) :
    (detachItems l s).editions = s.editions ∧ (detachItems l s).photos = s.photos
     ∧ (detachItems l s).profiles = s.profiles ∧ (detachItems l s).tariff = s.tariff
     ∧ (detachItems l s).accounts = s.accounts ∧ (detachItems l s).holders = s.holders
     ∧ (detachItems l s).revenue = s.revenue ∧ (detachItems l s).commitLimit = s.commitLimit
     ∧ (detachItems l s).filter = s.filter ∧ (detachItems l s).arm = s.arm ∧ (detachItems l s).slots = s.slots
     ∧ (detachItems l s).queue = s.queue ∧ (detachItems l s).units = s.units ∧ (detachItems l s).reads = s.reads
     ∧ (detachItems l s).held2 = s.held2 ∧ (detachItems l s).held3 = s.held3 ∧ (detachItems l s).free = s.free
     ∧ (detachItems l s).staging = s.staging ∧ (detachItems l s).tickets = s.tickets
     ∧ (detachItems l s).nextTicket = s.nextTicket ∧ (detachItems l s).jobs = s.jobs
     ∧ (detachItems l s).nextJob = s.nextJob ∧ (detachItems l s).engine = s.engine
     ∧ (detachItems l s).nextOrder = s.nextOrder ∧ (detachItems l s).slabWait = s.slabWait
     ∧ (detachItems l s).restoreWait = s.restoreWait ∧ (detachItems l s).notices = s.notices
     ∧ (detachItems l s).queueFull = s.queueFull ∧ (detachItems l s).halfArmed = s.halfArmed
     ∧ (detachItems l s).attention = s.attention ∧ (detachItems l s).receiver = s.receiver
     ∧ (detachItems l s).inputBuffer = s.inputBuffer ∧ (detachItems l s).outbound = s.outbound
     ∧ (detachItems l s).linkResetDue = s.linkResetDue ∧ (detachItems l s).timeBase = s.timeBase
     ∧ (detachItems l s).date = s.date ∧ (detachItems l s).supply = s.supply ∧ (detachItems l s).part = s.part
     ∧ (detachItems l s).lastCause = s.lastCause ∧ (detachItems l s).supplyHeld = s.supplyHeld
     ∧ (detachItems l s).lineHeld = s.lineHeld ∧ (detachItems l s).queries = s.queries
     ∧ (detachItems l s).incomplete = s.incomplete ∧ (detachItems l s).writeHold = s.writeHold
     ∧ (detachItems l s).passWrites = s.passWrites ∧ (detachItems l s).linkOut = s.linkOut
     ∧ (detachItems l s).chainOut = s.chainOut ∧ (detachItems l s).opCount = s.opCount
     ∧ (detachItems l s).freeCount = s.freeCount ∧ (detachItems l s).pending = s.pending := by
  unfold detachItems; induction l generalizing s with
    | nil => simp
    | cons x l ih => rw [List.foldl_cons]; refine ⟨?_, ?_⟩ <;> simp [ih]

@[simp] theorem activateOrder_keeps (o : Nat) (s : State) :
    (activateOrder o s).1.editions = s.editions ∧ (activateOrder o s).1.photos = s.photos
     ∧ (activateOrder o s).1.profiles = s.profiles ∧ (activateOrder o s).1.tariff = s.tariff
     ∧ (activateOrder o s).1.accounts = s.accounts ∧ (activateOrder o s).1.holders = s.holders
     ∧ (activateOrder o s).1.revenue = s.revenue ∧ (activateOrder o s).1.commitLimit = s.commitLimit
     ∧ (activateOrder o s).1.filter = s.filter ∧ (activateOrder o s).1.arm = s.arm
     ∧ (activateOrder o s).1.slots = s.slots ∧ (activateOrder o s).1.queue = s.queue
     ∧ (activateOrder o s).1.units = s.units ∧ (activateOrder o s).1.reads = s.reads
     ∧ (activateOrder o s).1.held2 = s.held2 ∧ (activateOrder o s).1.held3 = s.held3
     ∧ (activateOrder o s).1.free = s.free ∧ (activateOrder o s).1.staging = s.staging
     ∧ (activateOrder o s).1.tickets = s.tickets ∧ (activateOrder o s).1.nextTicket = s.nextTicket
     ∧ (activateOrder o s).1.jobs = s.jobs ∧ (activateOrder o s).1.nextJob = s.nextJob
     ∧ (activateOrder o s).1.engine = s.engine ∧ (activateOrder o s).1.nextOrder = s.nextOrder
     ∧ (activateOrder o s).1.slabWait = s.slabWait ∧ (activateOrder o s).1.restoreWait = s.restoreWait
     ∧ (activateOrder o s).1.notices = s.notices ∧ (activateOrder o s).1.queueFull = s.queueFull
     ∧ (activateOrder o s).1.halfArmed = s.halfArmed ∧ (activateOrder o s).1.attention = s.attention
     ∧ (activateOrder o s).1.receiver = s.receiver ∧ (activateOrder o s).1.inputBuffer = s.inputBuffer
     ∧ (activateOrder o s).1.outbound = s.outbound ∧ (activateOrder o s).1.linkResetDue = s.linkResetDue
     ∧ (activateOrder o s).1.timeBase = s.timeBase ∧ (activateOrder o s).1.date = s.date
     ∧ (activateOrder o s).1.supply = s.supply ∧ (activateOrder o s).1.part = s.part
     ∧ (activateOrder o s).1.lastCause = s.lastCause ∧ (activateOrder o s).1.supplyHeld = s.supplyHeld
     ∧ (activateOrder o s).1.lineHeld = s.lineHeld ∧ (activateOrder o s).1.queries = s.queries
     ∧ (activateOrder o s).1.incomplete = s.incomplete ∧ (activateOrder o s).1.writeHold = s.writeHold
     ∧ (activateOrder o s).1.passWrites = s.passWrites ∧ (activateOrder o s).1.linkOut = s.linkOut
     ∧ (activateOrder o s).1.chainOut = s.chainOut ∧ (activateOrder o s).1.opCount = s.opCount
     ∧ (activateOrder o s).1.freeCount = s.freeCount ∧ (activateOrder o s).1.pending = s.pending := by
  unfold activateOrder; try dsimp only
  (repeat' split) <;> simp

@[simp] theorem waitForJob_keeps (o i : Nat) (s : State) :
    (waitForJob o i s).editions = s.editions ∧ (waitForJob o i s).photos = s.photos
     ∧ (waitForJob o i s).profiles = s.profiles ∧ (waitForJob o i s).tariff = s.tariff
     ∧ (waitForJob o i s).accounts = s.accounts ∧ (waitForJob o i s).holders = s.holders
     ∧ (waitForJob o i s).revenue = s.revenue ∧ (waitForJob o i s).commitLimit = s.commitLimit
     ∧ (waitForJob o i s).filter = s.filter ∧ (waitForJob o i s).arm = s.arm
     ∧ (waitForJob o i s).slots = s.slots ∧ (waitForJob o i s).queue = s.queue
     ∧ (waitForJob o i s).units = s.units ∧ (waitForJob o i s).reads = s.reads
     ∧ (waitForJob o i s).held2 = s.held2 ∧ (waitForJob o i s).held3 = s.held3
     ∧ (waitForJob o i s).free = s.free ∧ (waitForJob o i s).staging = s.staging
     ∧ (waitForJob o i s).tickets = s.tickets ∧ (waitForJob o i s).nextTicket = s.nextTicket
     ∧ (waitForJob o i s).jobs = s.jobs ∧ (waitForJob o i s).nextJob = s.nextJob
     ∧ (waitForJob o i s).engine = s.engine ∧ (waitForJob o i s).nextOrder = s.nextOrder
     ∧ (waitForJob o i s).slabWait = s.slabWait ∧ (waitForJob o i s).notices = s.notices
     ∧ (waitForJob o i s).queueFull = s.queueFull ∧ (waitForJob o i s).halfArmed = s.halfArmed
     ∧ (waitForJob o i s).attention = s.attention ∧ (waitForJob o i s).receiver = s.receiver
     ∧ (waitForJob o i s).inputBuffer = s.inputBuffer ∧ (waitForJob o i s).outbound = s.outbound
     ∧ (waitForJob o i s).linkResetDue = s.linkResetDue ∧ (waitForJob o i s).timeBase = s.timeBase
     ∧ (waitForJob o i s).date = s.date ∧ (waitForJob o i s).supply = s.supply
     ∧ (waitForJob o i s).part = s.part ∧ (waitForJob o i s).lastCause = s.lastCause
     ∧ (waitForJob o i s).supplyHeld = s.supplyHeld ∧ (waitForJob o i s).lineHeld = s.lineHeld
     ∧ (waitForJob o i s).queries = s.queries ∧ (waitForJob o i s).incomplete = s.incomplete
     ∧ (waitForJob o i s).writeHold = s.writeHold ∧ (waitForJob o i s).passWrites = s.passWrites
     ∧ (waitForJob o i s).linkOut = s.linkOut ∧ (waitForJob o i s).chainOut = s.chainOut
     ∧ (waitForJob o i s).opCount = s.opCount ∧ (waitForJob o i s).freeCount = s.freeCount
     ∧ (waitForJob o i s).pending = s.pending := by
  simp [waitForJob]

@[simp] theorem askRestore_keeps (o i : Nat) (r : PlateRef) (p : Nat) (s : State) :
    (askRestore o i r p s).1.editions = s.editions ∧ (askRestore o i r p s).1.photos = s.photos
     ∧ (askRestore o i r p s).1.profiles = s.profiles ∧ (askRestore o i r p s).1.tariff = s.tariff
     ∧ (askRestore o i r p s).1.accounts = s.accounts ∧ (askRestore o i r p s).1.holders = s.holders
     ∧ (askRestore o i r p s).1.revenue = s.revenue ∧ (askRestore o i r p s).1.commitLimit = s.commitLimit
     ∧ (askRestore o i r p s).1.filter = s.filter ∧ (askRestore o i r p s).1.arm = s.arm
     ∧ (askRestore o i r p s).1.slots = s.slots ∧ (askRestore o i r p s).1.queue = s.queue
     ∧ (askRestore o i r p s).1.units = s.units ∧ (askRestore o i r p s).1.reads = s.reads
     ∧ (askRestore o i r p s).1.held2 = s.held2 ∧ (askRestore o i r p s).1.held3 = s.held3
     ∧ (askRestore o i r p s).1.free = s.free ∧ (askRestore o i r p s).1.staging = s.staging
     ∧ (askRestore o i r p s).1.tickets = s.tickets ∧ (askRestore o i r p s).1.nextTicket = s.nextTicket
     ∧ (askRestore o i r p s).1.engine = s.engine ∧ (askRestore o i r p s).1.nextOrder = s.nextOrder
     ∧ (askRestore o i r p s).1.slabWait = s.slabWait ∧ (askRestore o i r p s).1.notices = s.notices
     ∧ (askRestore o i r p s).1.queueFull = s.queueFull ∧ (askRestore o i r p s).1.halfArmed = s.halfArmed
     ∧ (askRestore o i r p s).1.attention = s.attention ∧ (askRestore o i r p s).1.receiver = s.receiver
     ∧ (askRestore o i r p s).1.inputBuffer = s.inputBuffer ∧ (askRestore o i r p s).1.outbound = s.outbound
     ∧ (askRestore o i r p s).1.linkResetDue = s.linkResetDue ∧ (askRestore o i r p s).1.timeBase = s.timeBase
     ∧ (askRestore o i r p s).1.date = s.date ∧ (askRestore o i r p s).1.supply = s.supply
     ∧ (askRestore o i r p s).1.part = s.part ∧ (askRestore o i r p s).1.lastCause = s.lastCause
     ∧ (askRestore o i r p s).1.supplyHeld = s.supplyHeld ∧ (askRestore o i r p s).1.lineHeld = s.lineHeld
     ∧ (askRestore o i r p s).1.queries = s.queries ∧ (askRestore o i r p s).1.incomplete = s.incomplete
     ∧ (askRestore o i r p s).1.writeHold = s.writeHold ∧ (askRestore o i r p s).1.passWrites = s.passWrites
     ∧ (askRestore o i r p s).1.linkOut = s.linkOut ∧ (askRestore o i r p s).1.chainOut = s.chainOut
     ∧ (askRestore o i r p s).1.opCount = s.opCount ∧ (askRestore o i r p s).1.freeCount = s.freeCount
     ∧ (askRestore o i r p s).1.pending = s.pending := by
  unfold askRestore addJob; (repeat' split) <;> simp

@[simp] theorem workActive_keeps (o i : Nat) (s : State) :
    (workActive o i s).1.editions = s.editions ∧ (workActive o i s).1.photos = s.photos
     ∧ (workActive o i s).1.profiles = s.profiles ∧ (workActive o i s).1.tariff = s.tariff
     ∧ (workActive o i s).1.accounts = s.accounts ∧ (workActive o i s).1.holders = s.holders
     ∧ (workActive o i s).1.revenue = s.revenue ∧ (workActive o i s).1.commitLimit = s.commitLimit
     ∧ (workActive o i s).1.filter = s.filter ∧ (workActive o i s).1.arm = s.arm
     ∧ (workActive o i s).1.slots = s.slots ∧ (workActive o i s).1.queue = s.queue
     ∧ (workActive o i s).1.units = s.units ∧ (workActive o i s).1.reads = s.reads
     ∧ (workActive o i s).1.held2 = s.held2 ∧ (workActive o i s).1.held3 = s.held3
     ∧ (workActive o i s).1.free = s.free ∧ (workActive o i s).1.staging = s.staging
     ∧ (workActive o i s).1.tickets = s.tickets ∧ (workActive o i s).1.nextTicket = s.nextTicket
     ∧ (workActive o i s).1.engine = s.engine ∧ (workActive o i s).1.nextOrder = s.nextOrder
     ∧ (workActive o i s).1.slabWait = s.slabWait ∧ (workActive o i s).1.notices = s.notices
     ∧ (workActive o i s).1.queueFull = s.queueFull ∧ (workActive o i s).1.halfArmed = s.halfArmed
     ∧ (workActive o i s).1.attention = s.attention ∧ (workActive o i s).1.receiver = s.receiver
     ∧ (workActive o i s).1.inputBuffer = s.inputBuffer ∧ (workActive o i s).1.outbound = s.outbound
     ∧ (workActive o i s).1.linkResetDue = s.linkResetDue ∧ (workActive o i s).1.timeBase = s.timeBase
     ∧ (workActive o i s).1.date = s.date ∧ (workActive o i s).1.supply = s.supply
     ∧ (workActive o i s).1.part = s.part ∧ (workActive o i s).1.lastCause = s.lastCause
     ∧ (workActive o i s).1.supplyHeld = s.supplyHeld ∧ (workActive o i s).1.lineHeld = s.lineHeld
     ∧ (workActive o i s).1.queries = s.queries ∧ (workActive o i s).1.incomplete = s.incomplete
     ∧ (workActive o i s).1.writeHold = s.writeHold ∧ (workActive o i s).1.passWrites = s.passWrites
     ∧ (workActive o i s).1.linkOut = s.linkOut ∧ (workActive o i s).1.chainOut = s.chainOut
     ∧ (workActive o i s).1.opCount = s.opCount ∧ (workActive o i s).1.freeCount = s.freeCount
     ∧ (workActive o i s).1.pending = s.pending := by
  unfold workActive; try dsimp only
  (repeat' split) <;> simp

@[simp] theorem joinSlabWait_keeps (o i : Nat) (s : State) :
    (joinSlabWait o i s).1.editions = s.editions ∧ (joinSlabWait o i s).1.photos = s.photos
     ∧ (joinSlabWait o i s).1.profiles = s.profiles ∧ (joinSlabWait o i s).1.tariff = s.tariff
     ∧ (joinSlabWait o i s).1.accounts = s.accounts ∧ (joinSlabWait o i s).1.holders = s.holders
     ∧ (joinSlabWait o i s).1.revenue = s.revenue ∧ (joinSlabWait o i s).1.commitLimit = s.commitLimit
     ∧ (joinSlabWait o i s).1.filter = s.filter ∧ (joinSlabWait o i s).1.arm = s.arm
     ∧ (joinSlabWait o i s).1.slots = s.slots ∧ (joinSlabWait o i s).1.queue = s.queue
     ∧ (joinSlabWait o i s).1.units = s.units ∧ (joinSlabWait o i s).1.reads = s.reads
     ∧ (joinSlabWait o i s).1.held2 = s.held2 ∧ (joinSlabWait o i s).1.held3 = s.held3
     ∧ (joinSlabWait o i s).1.free = s.free ∧ (joinSlabWait o i s).1.staging = s.staging
     ∧ (joinSlabWait o i s).1.tickets = s.tickets ∧ (joinSlabWait o i s).1.nextTicket = s.nextTicket
     ∧ (joinSlabWait o i s).1.jobs = s.jobs ∧ (joinSlabWait o i s).1.nextJob = s.nextJob
     ∧ (joinSlabWait o i s).1.engine = s.engine ∧ (joinSlabWait o i s).1.nextOrder = s.nextOrder
     ∧ (joinSlabWait o i s).1.restoreWait = s.restoreWait ∧ (joinSlabWait o i s).1.notices = s.notices
     ∧ (joinSlabWait o i s).1.queueFull = s.queueFull ∧ (joinSlabWait o i s).1.halfArmed = s.halfArmed
     ∧ (joinSlabWait o i s).1.attention = s.attention ∧ (joinSlabWait o i s).1.receiver = s.receiver
     ∧ (joinSlabWait o i s).1.inputBuffer = s.inputBuffer ∧ (joinSlabWait o i s).1.outbound = s.outbound
     ∧ (joinSlabWait o i s).1.linkResetDue = s.linkResetDue ∧ (joinSlabWait o i s).1.timeBase = s.timeBase
     ∧ (joinSlabWait o i s).1.date = s.date ∧ (joinSlabWait o i s).1.supply = s.supply
     ∧ (joinSlabWait o i s).1.part = s.part ∧ (joinSlabWait o i s).1.lastCause = s.lastCause
     ∧ (joinSlabWait o i s).1.supplyHeld = s.supplyHeld ∧ (joinSlabWait o i s).1.lineHeld = s.lineHeld
     ∧ (joinSlabWait o i s).1.queries = s.queries ∧ (joinSlabWait o i s).1.incomplete = s.incomplete
     ∧ (joinSlabWait o i s).1.writeHold = s.writeHold ∧ (joinSlabWait o i s).1.passWrites = s.passWrites
     ∧ (joinSlabWait o i s).1.linkOut = s.linkOut ∧ (joinSlabWait o i s).1.chainOut = s.chainOut
     ∧ (joinSlabWait o i s).1.opCount = s.opCount ∧ (joinSlabWait o i s).1.freeCount = s.freeCount
     ∧ (joinSlabWait o i s).1.pending = s.pending := by
  simp [joinSlabWait]

@[simp] theorem grantSlabs_keeps (s : State) :
    (grantSlabs s).1.editions = s.editions ∧ (grantSlabs s).1.photos = s.photos
     ∧ (grantSlabs s).1.profiles = s.profiles ∧ (grantSlabs s).1.tariff = s.tariff
     ∧ (grantSlabs s).1.accounts = s.accounts ∧ (grantSlabs s).1.holders = s.holders
     ∧ (grantSlabs s).1.revenue = s.revenue ∧ (grantSlabs s).1.commitLimit = s.commitLimit
     ∧ (grantSlabs s).1.filter = s.filter ∧ (grantSlabs s).1.arm = s.arm ∧ (grantSlabs s).1.slots = s.slots
     ∧ (grantSlabs s).1.queue = s.queue ∧ (grantSlabs s).1.units = s.units ∧ (grantSlabs s).1.held2 = s.held2
     ∧ (grantSlabs s).1.held3 = s.held3 ∧ (grantSlabs s).1.staging = s.staging
     ∧ (grantSlabs s).1.tickets = s.tickets ∧ (grantSlabs s).1.nextTicket = s.nextTicket
     ∧ (grantSlabs s).1.jobs = s.jobs ∧ (grantSlabs s).1.nextJob = s.nextJob
     ∧ (grantSlabs s).1.engine = s.engine ∧ (grantSlabs s).1.nextOrder = s.nextOrder
     ∧ (grantSlabs s).1.restoreWait = s.restoreWait ∧ (grantSlabs s).1.notices = s.notices
     ∧ (grantSlabs s).1.queueFull = s.queueFull ∧ (grantSlabs s).1.halfArmed = s.halfArmed
     ∧ (grantSlabs s).1.attention = s.attention ∧ (grantSlabs s).1.receiver = s.receiver
     ∧ (grantSlabs s).1.inputBuffer = s.inputBuffer ∧ (grantSlabs s).1.outbound = s.outbound
     ∧ (grantSlabs s).1.linkResetDue = s.linkResetDue ∧ (grantSlabs s).1.timeBase = s.timeBase
     ∧ (grantSlabs s).1.date = s.date ∧ (grantSlabs s).1.supply = s.supply ∧ (grantSlabs s).1.part = s.part
     ∧ (grantSlabs s).1.lastCause = s.lastCause ∧ (grantSlabs s).1.supplyHeld = s.supplyHeld
     ∧ (grantSlabs s).1.lineHeld = s.lineHeld ∧ (grantSlabs s).1.queries = s.queries
     ∧ (grantSlabs s).1.incomplete = s.incomplete ∧ (grantSlabs s).1.writeHold = s.writeHold
     ∧ (grantSlabs s).1.passWrites = s.passWrites ∧ (grantSlabs s).1.linkOut = s.linkOut
     ∧ (grantSlabs s).1.chainOut = s.chainOut ∧ (grantSlabs s).1.opCount = s.opCount
     ∧ (grantSlabs s).1.pending = s.pending := by
  unfold grantSlabs; try dsimp only
  (repeat' split) <;> simp

@[simp] theorem ownerFailed_keeps (o : Owner) (s : State) :
    (ownerFailed o s).1.editions = s.editions ∧ (ownerFailed o s).1.photos = s.photos
     ∧ (ownerFailed o s).1.profiles = s.profiles ∧ (ownerFailed o s).1.tariff = s.tariff
     ∧ (ownerFailed o s).1.accounts = s.accounts ∧ (ownerFailed o s).1.holders = s.holders
     ∧ (ownerFailed o s).1.revenue = s.revenue ∧ (ownerFailed o s).1.commitLimit = s.commitLimit
     ∧ (ownerFailed o s).1.filter = s.filter ∧ (ownerFailed o s).1.arm = s.arm
     ∧ (ownerFailed o s).1.slots = s.slots ∧ (ownerFailed o s).1.queue = s.queue
     ∧ (ownerFailed o s).1.held2 = s.held2 ∧ (ownerFailed o s).1.held3 = s.held3
     ∧ (ownerFailed o s).1.staging = s.staging ∧ (ownerFailed o s).1.nextTicket = s.nextTicket
     ∧ (ownerFailed o s).1.jobs = s.jobs ∧ (ownerFailed o s).1.nextJob = s.nextJob
     ∧ (ownerFailed o s).1.engine = s.engine ∧ (ownerFailed o s).1.orders = s.orders
     ∧ (ownerFailed o s).1.nextOrder = s.nextOrder ∧ (ownerFailed o s).1.slabWait = s.slabWait
     ∧ (ownerFailed o s).1.restoreWait = s.restoreWait ∧ (ownerFailed o s).1.notices = s.notices
     ∧ (ownerFailed o s).1.queueFull = s.queueFull ∧ (ownerFailed o s).1.halfArmed = s.halfArmed
     ∧ (ownerFailed o s).1.attention = s.attention ∧ (ownerFailed o s).1.receiver = s.receiver
     ∧ (ownerFailed o s).1.inputBuffer = s.inputBuffer ∧ (ownerFailed o s).1.outbound = s.outbound
     ∧ (ownerFailed o s).1.linkResetDue = s.linkResetDue ∧ (ownerFailed o s).1.timeBase = s.timeBase
     ∧ (ownerFailed o s).1.date = s.date ∧ (ownerFailed o s).1.supply = s.supply
     ∧ (ownerFailed o s).1.part = s.part ∧ (ownerFailed o s).1.lastCause = s.lastCause
     ∧ (ownerFailed o s).1.supplyHeld = s.supplyHeld ∧ (ownerFailed o s).1.lineHeld = s.lineHeld
     ∧ (ownerFailed o s).1.queries = s.queries ∧ (ownerFailed o s).1.incomplete = s.incomplete
     ∧ (ownerFailed o s).1.writeHold = s.writeHold ∧ (ownerFailed o s).1.passWrites = s.passWrites
     ∧ (ownerFailed o s).1.linkOut = s.linkOut ∧ (ownerFailed o s).1.chainOut = s.chainOut
     ∧ (ownerFailed o s).1.opCount = s.opCount ∧ (ownerFailed o s).1.freeCount = s.freeCount
     ∧ (ownerFailed o s).1.pending = s.pending := by
  unfold ownerFailed; try dsimp only
  (repeat' split) <;> simp

@[simp] theorem failRead_keeps (o : Owner) (s : State) :
    (failRead o s).1.editions = s.editions ∧ (failRead o s).1.photos = s.photos
     ∧ (failRead o s).1.profiles = s.profiles ∧ (failRead o s).1.tariff = s.tariff
     ∧ (failRead o s).1.accounts = s.accounts ∧ (failRead o s).1.holders = s.holders
     ∧ (failRead o s).1.revenue = s.revenue ∧ (failRead o s).1.commitLimit = s.commitLimit
     ∧ (failRead o s).1.filter = s.filter ∧ (failRead o s).1.arm = s.arm ∧ (failRead o s).1.slots = s.slots
     ∧ (failRead o s).1.queue = s.queue ∧ (failRead o s).1.held2 = s.held2 ∧ (failRead o s).1.held3 = s.held3
     ∧ (failRead o s).1.staging = s.staging ∧ (failRead o s).1.nextTicket = s.nextTicket
     ∧ (failRead o s).1.jobs = s.jobs ∧ (failRead o s).1.nextJob = s.nextJob
     ∧ (failRead o s).1.engine = s.engine ∧ (failRead o s).1.orders = s.orders
     ∧ (failRead o s).1.nextOrder = s.nextOrder ∧ (failRead o s).1.slabWait = s.slabWait
     ∧ (failRead o s).1.restoreWait = s.restoreWait ∧ (failRead o s).1.receiver = s.receiver
     ∧ (failRead o s).1.inputBuffer = s.inputBuffer ∧ (failRead o s).1.outbound = s.outbound
     ∧ (failRead o s).1.linkResetDue = s.linkResetDue ∧ (failRead o s).1.timeBase = s.timeBase
     ∧ (failRead o s).1.date = s.date ∧ (failRead o s).1.supply = s.supply ∧ (failRead o s).1.part = s.part
     ∧ (failRead o s).1.lastCause = s.lastCause ∧ (failRead o s).1.supplyHeld = s.supplyHeld
     ∧ (failRead o s).1.lineHeld = s.lineHeld ∧ (failRead o s).1.queries = s.queries
     ∧ (failRead o s).1.incomplete = s.incomplete ∧ (failRead o s).1.writeHold = s.writeHold
     ∧ (failRead o s).1.passWrites = s.passWrites ∧ (failRead o s).1.linkOut = s.linkOut
     ∧ (failRead o s).1.chainOut = s.chainOut ∧ (failRead o s).1.opCount = s.opCount
     ∧ (failRead o s).1.freeCount = s.freeCount ∧ (failRead o s).1.pending = s.pending := by
  unfold failRead; try dsimp only
  (repeat' split) <;> simp

@[simp] theorem failJobNow_keeps (n : Nat) (w : JobEnd) (r : CancelReason) (s : State) :
    (failJobNow n w r s).1.editions = s.editions ∧ (failJobNow n w r s).1.photos = s.photos
     ∧ (failJobNow n w r s).1.profiles = s.profiles ∧ (failJobNow n w r s).1.tariff = s.tariff
     ∧ (failJobNow n w r s).1.accounts = s.accounts ∧ (failJobNow n w r s).1.holders = s.holders
     ∧ (failJobNow n w r s).1.revenue = s.revenue ∧ (failJobNow n w r s).1.commitLimit = s.commitLimit
     ∧ (failJobNow n w r s).1.filter = s.filter ∧ (failJobNow n w r s).1.arm = s.arm
     ∧ (failJobNow n w r s).1.slots = s.slots ∧ (failJobNow n w r s).1.queue = s.queue
     ∧ (failJobNow n w r s).1.held2 = s.held2 ∧ (failJobNow n w r s).1.held3 = s.held3
     ∧ (failJobNow n w r s).1.staging = s.staging ∧ (failJobNow n w r s).1.tickets = s.tickets
     ∧ (failJobNow n w r s).1.nextTicket = s.nextTicket ∧ (failJobNow n w r s).1.nextJob = s.nextJob
     ∧ (failJobNow n w r s).1.nextOrder = s.nextOrder ∧ (failJobNow n w r s).1.slabWait = s.slabWait
     ∧ (failJobNow n w r s).1.restoreWait = s.restoreWait ∧ (failJobNow n w r s).1.receiver = s.receiver
     ∧ (failJobNow n w r s).1.inputBuffer = s.inputBuffer ∧ (failJobNow n w r s).1.outbound = s.outbound
     ∧ (failJobNow n w r s).1.linkResetDue = s.linkResetDue ∧ (failJobNow n w r s).1.timeBase = s.timeBase
     ∧ (failJobNow n w r s).1.date = s.date ∧ (failJobNow n w r s).1.supply = s.supply
     ∧ (failJobNow n w r s).1.part = s.part ∧ (failJobNow n w r s).1.lastCause = s.lastCause
     ∧ (failJobNow n w r s).1.supplyHeld = s.supplyHeld ∧ (failJobNow n w r s).1.lineHeld = s.lineHeld
     ∧ (failJobNow n w r s).1.queries = s.queries ∧ (failJobNow n w r s).1.incomplete = s.incomplete
     ∧ (failJobNow n w r s).1.writeHold = s.writeHold ∧ (failJobNow n w r s).1.passWrites = s.passWrites
     ∧ (failJobNow n w r s).1.linkOut = s.linkOut ∧ (failJobNow n w r s).1.chainOut = s.chainOut
     ∧ (failJobNow n w r s).1.opCount = s.opCount ∧ (failJobNow n w r s).1.freeCount = s.freeCount
     ∧ (failJobNow n w r s).1.pending = s.pending := by
  unfold failJobNow; try dsimp only
  (repeat' split) <;> simp

@[simp] theorem enterFetching_keeps (s : State) :
    (enterFetching s).1.editions = s.editions ∧ (enterFetching s).1.photos = s.photos
     ∧ (enterFetching s).1.profiles = s.profiles ∧ (enterFetching s).1.tariff = s.tariff
     ∧ (enterFetching s).1.accounts = s.accounts ∧ (enterFetching s).1.holders = s.holders
     ∧ (enterFetching s).1.revenue = s.revenue ∧ (enterFetching s).1.commitLimit = s.commitLimit
     ∧ (enterFetching s).1.filter = s.filter ∧ (enterFetching s).1.arm = s.arm
     ∧ (enterFetching s).1.slots = s.slots ∧ (enterFetching s).1.queue = s.queue
     ∧ (enterFetching s).1.units = s.units ∧ (enterFetching s).1.held2 = s.held2
     ∧ (enterFetching s).1.held3 = s.held3 ∧ (enterFetching s).1.staging = s.staging
     ∧ (enterFetching s).1.tickets = s.tickets ∧ (enterFetching s).1.nextTicket = s.nextTicket
     ∧ (enterFetching s).1.nextJob = s.nextJob ∧ (enterFetching s).1.engine = s.engine
     ∧ (enterFetching s).1.orders = s.orders ∧ (enterFetching s).1.nextOrder = s.nextOrder
     ∧ (enterFetching s).1.slabWait = s.slabWait ∧ (enterFetching s).1.restoreWait = s.restoreWait
     ∧ (enterFetching s).1.notices = s.notices ∧ (enterFetching s).1.queueFull = s.queueFull
     ∧ (enterFetching s).1.halfArmed = s.halfArmed ∧ (enterFetching s).1.attention = s.attention
     ∧ (enterFetching s).1.receiver = s.receiver ∧ (enterFetching s).1.inputBuffer = s.inputBuffer
     ∧ (enterFetching s).1.outbound = s.outbound ∧ (enterFetching s).1.linkResetDue = s.linkResetDue
     ∧ (enterFetching s).1.timeBase = s.timeBase ∧ (enterFetching s).1.date = s.date
     ∧ (enterFetching s).1.supply = s.supply ∧ (enterFetching s).1.part = s.part
     ∧ (enterFetching s).1.lastCause = s.lastCause ∧ (enterFetching s).1.supplyHeld = s.supplyHeld
     ∧ (enterFetching s).1.lineHeld = s.lineHeld ∧ (enterFetching s).1.queries = s.queries
     ∧ (enterFetching s).1.incomplete = s.incomplete ∧ (enterFetching s).1.writeHold = s.writeHold
     ∧ (enterFetching s).1.passWrites = s.passWrites ∧ (enterFetching s).1.linkOut = s.linkOut
     ∧ (enterFetching s).1.chainOut = s.chainOut ∧ (enterFetching s).1.opCount = s.opCount
     ∧ (enterFetching s).1.pending = s.pending := by
  unfold enterFetching; try dsimp only
  (repeat' split) <;> simp

@[simp] theorem enterRepairing_keeps (n : Nat) (s : State) :
    (enterRepairing n s).editions = s.editions ∧ (enterRepairing n s).photos = s.photos
     ∧ (enterRepairing n s).profiles = s.profiles ∧ (enterRepairing n s).tariff = s.tariff
     ∧ (enterRepairing n s).accounts = s.accounts ∧ (enterRepairing n s).holders = s.holders
     ∧ (enterRepairing n s).revenue = s.revenue ∧ (enterRepairing n s).commitLimit = s.commitLimit
     ∧ (enterRepairing n s).filter = s.filter ∧ (enterRepairing n s).arm = s.arm
     ∧ (enterRepairing n s).slots = s.slots ∧ (enterRepairing n s).queue = s.queue
     ∧ (enterRepairing n s).units = s.units ∧ (enterRepairing n s).reads = s.reads
     ∧ (enterRepairing n s).held2 = s.held2 ∧ (enterRepairing n s).held3 = s.held3
     ∧ (enterRepairing n s).free = s.free ∧ (enterRepairing n s).staging = s.staging
     ∧ (enterRepairing n s).tickets = s.tickets ∧ (enterRepairing n s).nextTicket = s.nextTicket
     ∧ (enterRepairing n s).nextJob = s.nextJob ∧ (enterRepairing n s).orders = s.orders
     ∧ (enterRepairing n s).nextOrder = s.nextOrder ∧ (enterRepairing n s).slabWait = s.slabWait
     ∧ (enterRepairing n s).restoreWait = s.restoreWait ∧ (enterRepairing n s).notices = s.notices
     ∧ (enterRepairing n s).queueFull = s.queueFull ∧ (enterRepairing n s).halfArmed = s.halfArmed
     ∧ (enterRepairing n s).attention = s.attention ∧ (enterRepairing n s).receiver = s.receiver
     ∧ (enterRepairing n s).inputBuffer = s.inputBuffer ∧ (enterRepairing n s).outbound = s.outbound
     ∧ (enterRepairing n s).linkResetDue = s.linkResetDue ∧ (enterRepairing n s).timeBase = s.timeBase
     ∧ (enterRepairing n s).date = s.date ∧ (enterRepairing n s).supply = s.supply
     ∧ (enterRepairing n s).part = s.part ∧ (enterRepairing n s).lastCause = s.lastCause
     ∧ (enterRepairing n s).supplyHeld = s.supplyHeld ∧ (enterRepairing n s).lineHeld = s.lineHeld
     ∧ (enterRepairing n s).queries = s.queries ∧ (enterRepairing n s).incomplete = s.incomplete
     ∧ (enterRepairing n s).writeHold = s.writeHold ∧ (enterRepairing n s).passWrites = s.passWrites
     ∧ (enterRepairing n s).linkOut = s.linkOut ∧ (enterRepairing n s).chainOut = s.chainOut
     ∧ (enterRepairing n s).opCount = s.opCount ∧ (enterRepairing n s).freeCount = s.freeCount
     ∧ (enterRepairing n s).pending = s.pending := by
  simp [enterRepairing]

@[simp] theorem enterCommitting_keeps (n : Nat) (s : State) :
    (enterCommitting n s).editions = s.editions ∧ (enterCommitting n s).photos = s.photos
     ∧ (enterCommitting n s).profiles = s.profiles ∧ (enterCommitting n s).tariff = s.tariff
     ∧ (enterCommitting n s).accounts = s.accounts ∧ (enterCommitting n s).holders = s.holders
     ∧ (enterCommitting n s).revenue = s.revenue ∧ (enterCommitting n s).commitLimit = s.commitLimit
     ∧ (enterCommitting n s).filter = s.filter ∧ (enterCommitting n s).arm = s.arm
     ∧ (enterCommitting n s).slots = s.slots ∧ (enterCommitting n s).units = s.units
     ∧ (enterCommitting n s).reads = s.reads ∧ (enterCommitting n s).held2 = s.held2
     ∧ (enterCommitting n s).held3 = s.held3 ∧ (enterCommitting n s).free = s.free
     ∧ (enterCommitting n s).staging = s.staging ∧ (enterCommitting n s).tickets = s.tickets
     ∧ (enterCommitting n s).nextTicket = s.nextTicket ∧ (enterCommitting n s).nextJob = s.nextJob
     ∧ (enterCommitting n s).engine = s.engine ∧ (enterCommitting n s).orders = s.orders
     ∧ (enterCommitting n s).nextOrder = s.nextOrder ∧ (enterCommitting n s).slabWait = s.slabWait
     ∧ (enterCommitting n s).restoreWait = s.restoreWait ∧ (enterCommitting n s).notices = s.notices
     ∧ (enterCommitting n s).queueFull = s.queueFull ∧ (enterCommitting n s).halfArmed = s.halfArmed
     ∧ (enterCommitting n s).attention = s.attention ∧ (enterCommitting n s).receiver = s.receiver
     ∧ (enterCommitting n s).inputBuffer = s.inputBuffer ∧ (enterCommitting n s).outbound = s.outbound
     ∧ (enterCommitting n s).linkResetDue = s.linkResetDue ∧ (enterCommitting n s).timeBase = s.timeBase
     ∧ (enterCommitting n s).date = s.date ∧ (enterCommitting n s).supply = s.supply
     ∧ (enterCommitting n s).part = s.part ∧ (enterCommitting n s).lastCause = s.lastCause
     ∧ (enterCommitting n s).supplyHeld = s.supplyHeld ∧ (enterCommitting n s).lineHeld = s.lineHeld
     ∧ (enterCommitting n s).queries = s.queries ∧ (enterCommitting n s).incomplete = s.incomplete
     ∧ (enterCommitting n s).writeHold = s.writeHold ∧ (enterCommitting n s).passWrites = s.passWrites
     ∧ (enterCommitting n s).linkOut = s.linkOut ∧ (enterCommitting n s).chainOut = s.chainOut
     ∧ (enterCommitting n s).opCount = s.opCount ∧ (enterCommitting n s).freeCount = s.freeCount
     ∧ (enterCommitting n s).pending = s.pending := by
  unfold enterCommitting; try dsimp only
  (repeat' split) <;> simp

@[simp] theorem installCopy_keeps (n : Nat) (s : State) :
    (installCopy n s).1.photos = s.photos ∧ (installCopy n s).1.profiles = s.profiles
     ∧ (installCopy n s).1.tariff = s.tariff ∧ (installCopy n s).1.accounts = s.accounts
     ∧ (installCopy n s).1.holders = s.holders ∧ (installCopy n s).1.revenue = s.revenue
     ∧ (installCopy n s).1.commitLimit = s.commitLimit ∧ (installCopy n s).1.filter = s.filter
     ∧ (installCopy n s).1.arm = s.arm ∧ (installCopy n s).1.slots = s.slots
     ∧ (installCopy n s).1.queue = s.queue ∧ (installCopy n s).1.held2 = s.held2
     ∧ (installCopy n s).1.held3 = s.held3 ∧ (installCopy n s).1.staging = s.staging
     ∧ (installCopy n s).1.tickets = s.tickets ∧ (installCopy n s).1.nextTicket = s.nextTicket
     ∧ (installCopy n s).1.nextJob = s.nextJob ∧ (installCopy n s).1.nextOrder = s.nextOrder
     ∧ (installCopy n s).1.slabWait = s.slabWait ∧ (installCopy n s).1.restoreWait = s.restoreWait
     ∧ (installCopy n s).1.receiver = s.receiver ∧ (installCopy n s).1.inputBuffer = s.inputBuffer
     ∧ (installCopy n s).1.outbound = s.outbound ∧ (installCopy n s).1.linkResetDue = s.linkResetDue
     ∧ (installCopy n s).1.timeBase = s.timeBase ∧ (installCopy n s).1.date = s.date
     ∧ (installCopy n s).1.supply = s.supply ∧ (installCopy n s).1.part = s.part
     ∧ (installCopy n s).1.lastCause = s.lastCause ∧ (installCopy n s).1.supplyHeld = s.supplyHeld
     ∧ (installCopy n s).1.lineHeld = s.lineHeld ∧ (installCopy n s).1.queries = s.queries
     ∧ (installCopy n s).1.incomplete = s.incomplete ∧ (installCopy n s).1.writeHold = s.writeHold
     ∧ (installCopy n s).1.passWrites = s.passWrites ∧ (installCopy n s).1.linkOut = s.linkOut
     ∧ (installCopy n s).1.opCount = s.opCount ∧ (installCopy n s).1.freeCount = s.freeCount
     ∧ (installCopy n s).1.pending = s.pending := by
  unfold installCopy; try dsimp only
  (repeat' split) <;> simp

theorem returnItems_keeps (o : Nat) (l : List Nat) (g : ItemRec → ItemRec) (s : State) :
    (l.foldl (fun s i => modifyItem o i g s) s).editions = s.editions
     ∧ (l.foldl (fun s i => modifyItem o i g s) s).photos = s.photos
     ∧ (l.foldl (fun s i => modifyItem o i g s) s).profiles = s.profiles
     ∧ (l.foldl (fun s i => modifyItem o i g s) s).tariff = s.tariff
     ∧ (l.foldl (fun s i => modifyItem o i g s) s).accounts = s.accounts
     ∧ (l.foldl (fun s i => modifyItem o i g s) s).holders = s.holders
     ∧ (l.foldl (fun s i => modifyItem o i g s) s).revenue = s.revenue
     ∧ (l.foldl (fun s i => modifyItem o i g s) s).commitLimit = s.commitLimit
     ∧ (l.foldl (fun s i => modifyItem o i g s) s).filter = s.filter
     ∧ (l.foldl (fun s i => modifyItem o i g s) s).arm = s.arm
     ∧ (l.foldl (fun s i => modifyItem o i g s) s).slots = s.slots
     ∧ (l.foldl (fun s i => modifyItem o i g s) s).queue = s.queue
     ∧ (l.foldl (fun s i => modifyItem o i g s) s).units = s.units
     ∧ (l.foldl (fun s i => modifyItem o i g s) s).reads = s.reads
     ∧ (l.foldl (fun s i => modifyItem o i g s) s).held2 = s.held2
     ∧ (l.foldl (fun s i => modifyItem o i g s) s).held3 = s.held3
     ∧ (l.foldl (fun s i => modifyItem o i g s) s).free = s.free
     ∧ (l.foldl (fun s i => modifyItem o i g s) s).staging = s.staging
     ∧ (l.foldl (fun s i => modifyItem o i g s) s).tickets = s.tickets
     ∧ (l.foldl (fun s i => modifyItem o i g s) s).nextTicket = s.nextTicket
     ∧ (l.foldl (fun s i => modifyItem o i g s) s).jobs = s.jobs
     ∧ (l.foldl (fun s i => modifyItem o i g s) s).nextJob = s.nextJob
     ∧ (l.foldl (fun s i => modifyItem o i g s) s).engine = s.engine
     ∧ (l.foldl (fun s i => modifyItem o i g s) s).nextOrder = s.nextOrder
     ∧ (l.foldl (fun s i => modifyItem o i g s) s).slabWait = s.slabWait
     ∧ (l.foldl (fun s i => modifyItem o i g s) s).restoreWait = s.restoreWait
     ∧ (l.foldl (fun s i => modifyItem o i g s) s).notices = s.notices
     ∧ (l.foldl (fun s i => modifyItem o i g s) s).queueFull = s.queueFull
     ∧ (l.foldl (fun s i => modifyItem o i g s) s).halfArmed = s.halfArmed
     ∧ (l.foldl (fun s i => modifyItem o i g s) s).attention = s.attention
     ∧ (l.foldl (fun s i => modifyItem o i g s) s).receiver = s.receiver
     ∧ (l.foldl (fun s i => modifyItem o i g s) s).inputBuffer = s.inputBuffer
     ∧ (l.foldl (fun s i => modifyItem o i g s) s).outbound = s.outbound
     ∧ (l.foldl (fun s i => modifyItem o i g s) s).linkResetDue = s.linkResetDue
     ∧ (l.foldl (fun s i => modifyItem o i g s) s).timeBase = s.timeBase
     ∧ (l.foldl (fun s i => modifyItem o i g s) s).date = s.date
     ∧ (l.foldl (fun s i => modifyItem o i g s) s).supply = s.supply
     ∧ (l.foldl (fun s i => modifyItem o i g s) s).part = s.part
     ∧ (l.foldl (fun s i => modifyItem o i g s) s).lastCause = s.lastCause
     ∧ (l.foldl (fun s i => modifyItem o i g s) s).supplyHeld = s.supplyHeld
     ∧ (l.foldl (fun s i => modifyItem o i g s) s).lineHeld = s.lineHeld
     ∧ (l.foldl (fun s i => modifyItem o i g s) s).queries = s.queries
     ∧ (l.foldl (fun s i => modifyItem o i g s) s).incomplete = s.incomplete
     ∧ (l.foldl (fun s i => modifyItem o i g s) s).writeHold = s.writeHold
     ∧ (l.foldl (fun s i => modifyItem o i g s) s).passWrites = s.passWrites
     ∧ (l.foldl (fun s i => modifyItem o i g s) s).linkOut = s.linkOut
     ∧ (l.foldl (fun s i => modifyItem o i g s) s).chainOut = s.chainOut
     ∧ (l.foldl (fun s i => modifyItem o i g s) s).opCount = s.opCount
     ∧ (l.foldl (fun s i => modifyItem o i g s) s).freeCount = s.freeCount
     ∧ (l.foldl (fun s i => modifyItem o i g s) s).pending = s.pending := by
  induction l generalizing s with
  | nil => simp
  | cons x l ih => rw [List.foldl_cons]; simp [ih]

@[simp] theorem returnToTurn_keeps (o : Nat) (l : List Nat) (s : State) :
    (returnToTurn o l s).1.editions = s.editions ∧ (returnToTurn o l s).1.photos = s.photos
     ∧ (returnToTurn o l s).1.profiles = s.profiles ∧ (returnToTurn o l s).1.tariff = s.tariff
     ∧ (returnToTurn o l s).1.accounts = s.accounts ∧ (returnToTurn o l s).1.holders = s.holders
     ∧ (returnToTurn o l s).1.revenue = s.revenue ∧ (returnToTurn o l s).1.commitLimit = s.commitLimit
     ∧ (returnToTurn o l s).1.filter = s.filter ∧ (returnToTurn o l s).1.arm = s.arm
     ∧ (returnToTurn o l s).1.slots = s.slots ∧ (returnToTurn o l s).1.queue = s.queue
     ∧ (returnToTurn o l s).1.units = s.units ∧ (returnToTurn o l s).1.reads = s.reads
     ∧ (returnToTurn o l s).1.held2 = s.held2 ∧ (returnToTurn o l s).1.held3 = s.held3
     ∧ (returnToTurn o l s).1.free = s.free ∧ (returnToTurn o l s).1.staging = s.staging
     ∧ (returnToTurn o l s).1.tickets = s.tickets ∧ (returnToTurn o l s).1.nextTicket = s.nextTicket
     ∧ (returnToTurn o l s).1.jobs = s.jobs ∧ (returnToTurn o l s).1.nextJob = s.nextJob
     ∧ (returnToTurn o l s).1.engine = s.engine ∧ (returnToTurn o l s).1.nextOrder = s.nextOrder
     ∧ (returnToTurn o l s).1.slabWait = s.slabWait ∧ (returnToTurn o l s).1.restoreWait = s.restoreWait
     ∧ (returnToTurn o l s).1.notices = s.notices ∧ (returnToTurn o l s).1.queueFull = s.queueFull
     ∧ (returnToTurn o l s).1.halfArmed = s.halfArmed ∧ (returnToTurn o l s).1.attention = s.attention
     ∧ (returnToTurn o l s).1.receiver = s.receiver ∧ (returnToTurn o l s).1.inputBuffer = s.inputBuffer
     ∧ (returnToTurn o l s).1.outbound = s.outbound ∧ (returnToTurn o l s).1.linkResetDue = s.linkResetDue
     ∧ (returnToTurn o l s).1.timeBase = s.timeBase ∧ (returnToTurn o l s).1.date = s.date
     ∧ (returnToTurn o l s).1.supply = s.supply ∧ (returnToTurn o l s).1.part = s.part
     ∧ (returnToTurn o l s).1.lastCause = s.lastCause ∧ (returnToTurn o l s).1.supplyHeld = s.supplyHeld
     ∧ (returnToTurn o l s).1.lineHeld = s.lineHeld ∧ (returnToTurn o l s).1.queries = s.queries
     ∧ (returnToTurn o l s).1.incomplete = s.incomplete ∧ (returnToTurn o l s).1.writeHold = s.writeHold
     ∧ (returnToTurn o l s).1.passWrites = s.passWrites ∧ (returnToTurn o l s).1.linkOut = s.linkOut
     ∧ (returnToTurn o l s).1.chainOut = s.chainOut ∧ (returnToTurn o l s).1.opCount = s.opCount
     ∧ (returnToTurn o l s).1.freeCount = s.freeCount ∧ (returnToTurn o l s).1.pending = s.pending := by
  unfold returnToTurn; (repeat' split) <;> simp [returnItems_keeps]

@[simp] theorem perform_keeps (t : Task) (s : State) :
    (perform t s).1.photos = s.photos ∧ (perform t s).1.profiles = s.profiles
     ∧ (perform t s).1.tariff = s.tariff ∧ (perform t s).1.commitLimit = s.commitLimit
     ∧ (perform t s).1.filter = s.filter ∧ (perform t s).1.arm = s.arm ∧ (perform t s).1.slots = s.slots
     ∧ (perform t s).1.held2 = s.held2 ∧ (perform t s).1.held3 = s.held3 ∧ (perform t s).1.staging = s.staging
     ∧ (perform t s).1.nextTicket = s.nextTicket ∧ (perform t s).1.nextOrder = s.nextOrder
     ∧ (perform t s).1.receiver = s.receiver ∧ (perform t s).1.inputBuffer = s.inputBuffer
     ∧ (perform t s).1.outbound = s.outbound ∧ (perform t s).1.linkResetDue = s.linkResetDue
     ∧ (perform t s).1.timeBase = s.timeBase ∧ (perform t s).1.date = s.date ∧ (perform t s).1.supply = s.supply
     ∧ (perform t s).1.part = s.part ∧ (perform t s).1.lastCause = s.lastCause
     ∧ (perform t s).1.supplyHeld = s.supplyHeld ∧ (perform t s).1.lineHeld = s.lineHeld
     ∧ (perform t s).1.queries = s.queries ∧ (perform t s).1.incomplete = s.incomplete
     ∧ (perform t s).1.writeHold = s.writeHold ∧ (perform t s).1.passWrites = s.passWrites
     ∧ (perform t s).1.linkOut = s.linkOut ∧ (perform t s).1.opCount = s.opCount
     ∧ (perform t s).1.pending = s.pending := by
  unfold perform; split
  · cases t <;> simp [carryOut]
  · simp

/-- A property every task keeps is kept by all that a task leads to. -/
theorem workOff_induction {P : State → Prop} (h : ∀ t s, P s → P (perform t s).1) (n : Nat) (l : List Task)
    (w : Tally) (hw : P w.state) : P (workOff n l w).state := by
  induction n generalizing l w with
  | zero => simpa [workOff] using hw
  | succ n ih =>
    cases l with
    | nil => simpa [workOff] using hw
    | cons t l => exact ih _ _ (h t _ hw)

theorem workTask_induction {P : State → Prop} (h : ∀ t s, P s → P (perform t s).1) (n : Nat) (w : Tally) (t : Task)
    (hw : P w.state) : P (workTask n w t).state := workOff_induction h n _ _ (h t _ hw)

theorem drainTasks_induction {P : State → Prop} (h : ∀ t s, P s → P (perform t s).1) (n : Nat) (l : List Task)
    (w : Tally) (hw : P w.state) : P (drainTasks n l w).state := by
  induction l generalizing w with
  | nil => simpa [drainTasks] using hw
  | cons t l ih => exact ih _ (workTask_induction h n w t hw)

theorem followUps_induction {P : State → Prop} (h : ∀ t s, P s → P (perform t s).1) (k n : Nat) (w : Tally)
    (hw : P w.state) : P (followUps k n w).state := by
  induction k generalizing w with
  | zero => simpa [followUps] using hw
  | succ k ih =>
    unfold followUps
    split
    · exact hw
    · exact ih _ (workTask_induction h n w _ hw)

/-- A property every task keeps is kept by all that a request's tasks lead to. -/
theorem drainTally_induction {P : State → Prop} (h : ∀ t s, P s → P (perform t s).1) (l : List Task) (s : State)
    (hs : P s) : P (drainTally l s).state := followUps_induction h _ _ _ (drainTasks_induction h _ l _ hs)

/-- A property every task keeps is kept by `drain`. -/
theorem drain_induction {P : State → Prop} (h : ∀ t s, P s → P (perform t s).1) (l : List Task) (s : State)
    (hs : P s) : P (drain l s) := drainTally_induction h l s hs

/-- No job can enter REPAIRING. -/
theorem repairReady_none (s : State) :
    repairReady s = none ↔ (s.engine = none → ∀ j ∈ s.jobs, j.state = .fetching → j.landed = false) := by
  cases h : s.engine <;> simp [repairReady, h]

/-- No job can take a place. -/
theorem placeReady_none (s : State) :
    placeReady s = none ↔ (s.queue.length + reservedPlaces s < 64 → ∀ j ∈ s.jobs, j.state ≠ .repaired) := by
  have hm : ∀ j, j ∈ queueOrder s ↔ j ∈ s.jobs := fun j => by
    cases hp : j.priority <;> simp [queueOrder, hp]
  by_cases h : s.queue.length + reservedPlaces s < 64
  · have h0 : freePlaces s ≠ 0 := by simp only [freePlaces, Config.commitPlaces]; omega
    simp [placeReady, h0, h, hm]
  · have h0 : freePlaces s = 0 := by simp only [freePlaces, Config.commitPlaces]; omega
    simp [placeReady, h0, h]

/-- No copy can be installed. -/
theorem installReady_none (s : State) :
    installReady s = none ↔
      ∀ j ∈ s.jobs, j.state = .committing → j.stored.isSome = true → copyHold s j.plate ≠ 0 := by
  simp [installReady, and_imp]

/-- A member of the restore-wait list would be turned away again. -/
theorem canRework_false (s : State) (x : Nat × Nat) :
    canRework s x = false ↔ ∀ it, findItem s x.1 x.2 = some it → ∃ r p, it.subject = .plate r ∧ it.bound = .restored p
        ∧ presentProfile s r ≠ some p
        ∧ match jobOn s r with
          | some j => j.profile ≠ p ∨ 8 ≤ j.waiting.length
          | none => 16 ≤ s.jobs.length := by
  cases h : findItem s x.1 x.2 with
  | none => simp [canRework, h]
  | some it =>
    cases hs : it.subject <;> cases hb : it.bound <;> simp [canRework, h, hs, hb]
    intro _
    cases jobOn s _ <;> simp [imp_iff_not_or, Config.waitingRoom, Config.jobRoom]

/-- No job can enter FETCHING. -/
theorem waitingHead_none (s : State) :
    waitingHead s = none ↔ (∃ j ∈ s.jobs, j.state = .fetching)
        ∨ ∀ j, (queueOrder s).find? (fun j => decide (j.state = .waiting)) = some j →
            ∀ src, copySource s (.plate j.plate) .original = some src → s.free < 2 * slabsFor src.size + 8192 := by
  by_cases h : ∃ j ∈ s.jobs, j.state = .fetching
  · have hf : (s.jobs.any fun j => decide (j.state = .fetching)) = true := by simpa using h
    simp [waitingHead, hf, h]
  · have hf : (s.jobs.any fun j => decide (j.state = .fetching)) = false := by simpa using h
    simp [waitingHead, hf, h, canGrant, Option.bind_eq_none_iff, Config.depositReserve]

/-- No item can have its slabs. -/
theorem slabHead_none (s : State) :
    slabHead s = none ↔ ∀ x, s.slabWait.head? = some x → ∀ it, findItem s x.1 x.2 = some it →
        ∀ src, copySource s it.subject it.bound.copy = some src → s.free < slabsFor src.size + 8192 := by
  cases h : s.slabWait with
  | nil => simp [slabHead, h]
  | cons x l => simp [slabHead, h, canGrant, Option.bind_eq_none_iff, Config.depositReserve]

/-- Settled, said of the follow-ups. -/
theorem settled_iff (s : State) : Settled s ↔ followUp s = none := by
  have h : Settled s ↔ repairReady s = none ∧ placeReady s = none ∧ installReady s = none
      ∧ (∀ x ∈ s.restoreWait, canRework s x = false) ∧ waitingHead s = none ∧ slabHead s = none :=
    and_congr (repairReady_none s).symm <| and_congr (placeReady_none s).symm <| and_congr (installReady_none s).symm <|
      and_congr (forall₂_congr fun x _ => (canRework_false s x).symm) <|
        and_congr (waitingHead_none s).symm (slabHead_none s).symm
  rw [h]
  unfold followUp
  cases repairReady s <;> cases placeReady s <;> cases installReady s <;> simp
  cases h : s.restoreWait.find? (canRework s) with
  | some x => simpa using fun h' => absurd (List.find?_some h) (by simp [h' _ _ (List.mem_of_find?_eq_some h)])
  | none =>
    have h' : ∀ x ∈ s.restoreWait, canRework s x = false := by simpa using List.find?_eq_none.mp h
    cases waitingHead s <;> cases slabHead s <;> simp_all
/-- With no task and no follow-up nothing happens. -/
theorem drainTally_settled {s : State} (h : Settled s) : drainTally [] s = ⟨s, 0⟩ := by
  rw [settled_iff] at h
  have : ∀ k n, followUps k n ⟨s, 0⟩ = ⟨s, 0⟩ := fun k n => by cases k <;> simp [followUps, h]
  simp [drainTally, drainTasks, this]

/-- The same for the state. -/
theorem drain_settled {s : State} (h : Settled s) : drain [] s = s := by simp [drain, drainTally_settled h]

theorem drain_is_tally (l : List Task) (s : State) : (drainTally l s).state = drain l s := rfl

/-- A task whose stage has gone by changes nothing. -/
theorem perform_unwanted {t : Task} {s : State} (h : wanted s t = false) : perform t s = (s, []) := by
  simp [perform, h]

/-- A task whose stage is to come does it. -/
theorem perform_wanted {t : Task} {s : State} (h : wanted s t = true) : perform t s = carryOut t s := by
  simp [perform, h]

@[simp] theorem drain_keeps (l : List Task) (s : State) :
    (drain l s).photos = s.photos ∧ (drain l s).profiles = s.profiles ∧ (drain l s).tariff = s.tariff
     ∧ (drain l s).commitLimit = s.commitLimit ∧ (drain l s).filter = s.filter ∧ (drain l s).arm = s.arm
     ∧ (drain l s).slots = s.slots ∧ (drain l s).held2 = s.held2 ∧ (drain l s).held3 = s.held3
     ∧ (drain l s).staging = s.staging ∧ (drain l s).nextTicket = s.nextTicket
     ∧ (drain l s).nextOrder = s.nextOrder ∧ (drain l s).receiver = s.receiver
     ∧ (drain l s).inputBuffer = s.inputBuffer ∧ (drain l s).outbound = s.outbound
     ∧ (drain l s).linkResetDue = s.linkResetDue ∧ (drain l s).timeBase = s.timeBase ∧ (drain l s).date = s.date
     ∧ (drain l s).supply = s.supply ∧ (drain l s).part = s.part ∧ (drain l s).lastCause = s.lastCause
     ∧ (drain l s).supplyHeld = s.supplyHeld ∧ (drain l s).lineHeld = s.lineHeld
     ∧ (drain l s).queries = s.queries ∧ (drain l s).incomplete = s.incomplete
     ∧ (drain l s).writeHold = s.writeHold ∧ (drain l s).passWrites = s.passWrites
     ∧ (drain l s).linkOut = s.linkOut ∧ (drain l s).opCount = s.opCount ∧ (drain l s).pending = s.pending := by
  refine drain_induction (P := fun t =>
    t.photos = s.photos ∧ t.profiles = s.profiles ∧ t.tariff = s.tariff ∧ t.commitLimit = s.commitLimit
     ∧ t.filter = s.filter ∧ t.arm = s.arm ∧ t.slots = s.slots ∧ t.held2 = s.held2 ∧ t.held3 = s.held3
     ∧ t.staging = s.staging ∧ t.nextTicket = s.nextTicket ∧ t.nextOrder = s.nextOrder ∧ t.receiver = s.receiver
     ∧ t.inputBuffer = s.inputBuffer ∧ t.outbound = s.outbound ∧ t.linkResetDue = s.linkResetDue
     ∧ t.timeBase = s.timeBase ∧ t.date = s.date ∧ t.supply = s.supply ∧ t.part = s.part
     ∧ t.lastCause = s.lastCause ∧ t.supplyHeld = s.supplyHeld ∧ t.lineHeld = s.lineHeld ∧ t.queries = s.queries
     ∧ t.incomplete = s.incomplete ∧ t.writeHold = s.writeHold ∧ t.passWrites = s.passWrites
     ∧ t.linkOut = s.linkOut ∧ t.opCount = s.opCount ∧ t.pending = s.pending) (fun t u h => ?_) l s (by simp)
  simpa using h

/-! ### A recovery pass cut by a reset -/

@[simp] theorem undoWrite_keeps (w : PassWrite) (s : State) :
    (undoWrite w s).profiles = s.profiles ∧ (undoWrite w s).tariff = s.tariff
     ∧ (undoWrite w s).accounts = s.accounts ∧ (undoWrite w s).holders = s.holders
     ∧ (undoWrite w s).revenue = s.revenue ∧ (undoWrite w s).commitLimit = s.commitLimit
     ∧ (undoWrite w s).filter = s.filter ∧ (undoWrite w s).arm = s.arm ∧ (undoWrite w s).slots = s.slots
     ∧ (undoWrite w s).queue = s.queue ∧ (undoWrite w s).units = s.units ∧ (undoWrite w s).reads = s.reads
     ∧ (undoWrite w s).held2 = s.held2 ∧ (undoWrite w s).held3 = s.held3 ∧ (undoWrite w s).free = s.free
     ∧ (undoWrite w s).staging = s.staging ∧ (undoWrite w s).tickets = s.tickets
     ∧ (undoWrite w s).nextTicket = s.nextTicket ∧ (undoWrite w s).jobs = s.jobs
     ∧ (undoWrite w s).nextJob = s.nextJob ∧ (undoWrite w s).engine = s.engine
     ∧ (undoWrite w s).orders = s.orders ∧ (undoWrite w s).nextOrder = s.nextOrder
     ∧ (undoWrite w s).slabWait = s.slabWait ∧ (undoWrite w s).restoreWait = s.restoreWait
     ∧ (undoWrite w s).notices = s.notices ∧ (undoWrite w s).queueFull = s.queueFull
     ∧ (undoWrite w s).halfArmed = s.halfArmed ∧ (undoWrite w s).attention = s.attention
     ∧ (undoWrite w s).receiver = s.receiver ∧ (undoWrite w s).inputBuffer = s.inputBuffer
     ∧ (undoWrite w s).outbound = s.outbound ∧ (undoWrite w s).linkResetDue = s.linkResetDue
     ∧ (undoWrite w s).timeBase = s.timeBase ∧ (undoWrite w s).date = s.date ∧ (undoWrite w s).supply = s.supply
     ∧ (undoWrite w s).part = s.part ∧ (undoWrite w s).lastCause = s.lastCause
     ∧ (undoWrite w s).supplyHeld = s.supplyHeld ∧ (undoWrite w s).lineHeld = s.lineHeld
     ∧ (undoWrite w s).queries = s.queries ∧ (undoWrite w s).incomplete = s.incomplete
     ∧ (undoWrite w s).writeHold = s.writeHold ∧ (undoWrite w s).passWrites = s.passWrites
     ∧ (undoWrite w s).linkOut = s.linkOut ∧ (undoWrite w s).chainOut = s.chainOut
     ∧ (undoWrite w s).opCount = s.opCount ∧ (undoWrite w s).freeCount = s.freeCount
     ∧ (undoWrite w s).pending = s.pending := by
  cases w with
  | content x was l => cases x <;> simp [undoWrite]
  | close d i t => simp [undoWrite]

/-- With no pass under way there is nothing to cut. -/
@[simp] theorem cutPass_none {s : State} (h : s.passWrites = []) : cutPass s = s := by simp [cutPass, h]

@[simp] theorem cutPass_keeps (s : State) :
    (cutPass s).profiles = s.profiles ∧ (cutPass s).tariff = s.tariff ∧ (cutPass s).accounts = s.accounts
     ∧ (cutPass s).holders = s.holders ∧ (cutPass s).revenue = s.revenue
     ∧ (cutPass s).commitLimit = s.commitLimit ∧ (cutPass s).filter = s.filter ∧ (cutPass s).arm = s.arm
     ∧ (cutPass s).slots = s.slots ∧ (cutPass s).queue = s.queue ∧ (cutPass s).units = s.units
     ∧ (cutPass s).reads = s.reads ∧ (cutPass s).held2 = s.held2 ∧ (cutPass s).held3 = s.held3
     ∧ (cutPass s).free = s.free ∧ (cutPass s).staging = s.staging ∧ (cutPass s).tickets = s.tickets
     ∧ (cutPass s).nextTicket = s.nextTicket ∧ (cutPass s).jobs = s.jobs ∧ (cutPass s).nextJob = s.nextJob
     ∧ (cutPass s).engine = s.engine ∧ (cutPass s).orders = s.orders ∧ (cutPass s).nextOrder = s.nextOrder
     ∧ (cutPass s).slabWait = s.slabWait ∧ (cutPass s).restoreWait = s.restoreWait
     ∧ (cutPass s).notices = s.notices ∧ (cutPass s).queueFull = s.queueFull
     ∧ (cutPass s).halfArmed = s.halfArmed ∧ (cutPass s).attention = s.attention
     ∧ (cutPass s).receiver = s.receiver ∧ (cutPass s).inputBuffer = s.inputBuffer
     ∧ (cutPass s).outbound = s.outbound ∧ (cutPass s).linkResetDue = s.linkResetDue
     ∧ (cutPass s).timeBase = s.timeBase ∧ (cutPass s).date = s.date ∧ (cutPass s).supply = s.supply
     ∧ (cutPass s).part = s.part ∧ (cutPass s).lastCause = s.lastCause ∧ (cutPass s).supplyHeld = s.supplyHeld
     ∧ (cutPass s).lineHeld = s.lineHeld ∧ (cutPass s).queries = s.queries
     ∧ (cutPass s).incomplete = s.incomplete ∧ (cutPass s).writeHold = s.writeHold
     ∧ (cutPass s).linkOut = s.linkOut ∧ (cutPass s).chainOut = s.chainOut ∧ (cutPass s).opCount = s.opCount
     ∧ (cutPass s).pending = s.pending := by
  have h : ∀ (l : List PassWrite) (s : State),
      { l.foldl (fun t w => undoWrite w t) s with editions := [], photos := [] }
        = { s with editions := [], photos := [] } := by
    intro l
    induction l with
    | nil => simp
    | cons w l ih => intro s; rw [List.foldl_cons, ih]; cases s; simp
  unfold cutPass
  split
  · simp
  · have := h (unwritten s) s
    rw [State.mk.injEq] at this
    simp_all

@[simp] theorem cutPass_ends (s : State) : (cutPass s).passWrites = [] := by
  unfold cutPass; split <;> simp_all

end Sys2Proof.Machine
end

