-- ==== Sys2Proof/Laws/PerInstr.lean ====
section
/-! SUPPORT. What the frame of every request carries, one lemma per command: a command that is written as a REQUEST
frame is a request, the frame's tag is its tag, and the frame's code is one of R197's. -/

namespace Sys2Proof.Laws.Wire

open Sys2Proof Sys2Proof.Machine

/-- The frame of a request carries its tag and a code of R197; a command that is no request has no frame. -/
def Statement (i : Instr) : Prop :=
  ∀ tag code body, requestFrameOf i = some (tag, code, body) →
    requestTag i = some tag ∧ 0x0101 ≤ code ∧ code ≤ 0x0A01

/-- A body that is there is written under the request's tag and code. -/
theorem of_body {α : Type} {r : Taken α} {n : Nat} {f : α → List Byte} {tag code : Nat} {body : List Byte}
    (h : (r.body.map fun x => (r.tag, n, f x)) = some (tag, code, body)) : r.tag = tag ∧ n = code := by
  obtain ⟨x, -, hx⟩ := Option.map_eq_some_iff.mp h
  simp only [Prod.mk.injEq] at hx
  exact ⟨hx.1, hx.2.1⟩

theorem openEdition (r : Taken OpenEditionReq) : Statement (.openEdition r) := fun _ _ _ h =>
  have ⟨a, b⟩ := of_body h
  ⟨congrArg some a, b ▸ by decide, b ▸ by decide⟩

theorem dropEdition (r : Taken EditionReq) : Statement (.dropEdition r) := fun _ _ _ h =>
  have ⟨a, b⟩ := of_body h
  ⟨congrArg some a, b ▸ by decide, b ▸ by decide⟩

theorem editionInfo (r : Taken EditionReq) : Statement (.editionInfo r) := fun _ _ _ h =>
  have ⟨a, b⟩ := of_body h
  ⟨congrArg some a, b ▸ by decide, b ▸ by decide⟩

theorem pageInfo (r : Taken PageReq) : Statement (.pageInfo r) := fun _ _ _ h =>
  have ⟨a, b⟩ := of_body h
  ⟨congrArg some a, b ▸ by decide, b ▸ by decide⟩

theorem plateInfo (r : Taken PlateReq) : Statement (.plateInfo r) := fun _ _ _ h =>
  have ⟨a, b⟩ := of_body h
  ⟨congrArg some a, b ▸ by decide, b ▸ by decide⟩

theorem suppressArm (r : Taken PlateReq) : Statement (.suppressArm r) := fun _ _ _ h =>
  have ⟨a, b⟩ := of_body h
  ⟨congrArg some a, b ▸ by decide, b ▸ by decide⟩

theorem suppress (r : Taken SuppressReq) : Statement (.suppress r) := fun _ _ _ h =>
  have ⟨a, b⟩ := of_body h
  ⟨congrArg some a, b ▸ by decide, b ▸ by decide⟩

theorem filePhoto (r : Taken FilePhotoReq) : Statement (.filePhoto r) := fun _ _ _ h =>
  have ⟨a, b⟩ := of_body h
  ⟨congrArg some a, b ▸ by decide, b ▸ by decide⟩

theorem setRights (r : Taken RightsReq) : Statement (.setRights r) := fun _ _ _ h =>
  have ⟨a, b⟩ := of_body h
  ⟨congrArg some a, b ▸ by decide, b ▸ by decide⟩

theorem barPhoto (r : Taken Nat) : Statement (.barPhoto r) := fun _ _ _ h =>
  have ⟨a, b⟩ := of_body h
  ⟨congrArg some a, b ▸ by decide, b ▸ by decide⟩

theorem unbarPhoto (r : Taken Nat) : Statement (.unbarPhoto r) := fun _ _ _ h =>
  have ⟨a, b⟩ := of_body h
  ⟨congrArg some a, b ▸ by decide, b ▸ by decide⟩

theorem removePhoto (r : Taken Nat) : Statement (.removePhoto r) := fun _ _ _ h =>
  have ⟨a, b⟩ := of_body h
  ⟨congrArg some a, b ▸ by decide, b ▸ by decide⟩

theorem photoInfo (r : Taken Nat) : Statement (.photoInfo r) := fun _ _ _ h =>
  have ⟨a, b⟩ := of_body h
  ⟨congrArg some a, b ▸ by decide, b ▸ by decide⟩

theorem deposit (r : Taken DepositReq) : Statement (.deposit r) := fun _ _ _ h =>
  have ⟨a, b⟩ := of_body h
  ⟨congrArg some a, b ▸ by decide, b ▸ by decide⟩

theorem redeposit (r : Taken RedepositReq) : Statement (.redeposit r) := fun _ _ _ h =>
  have ⟨a, b⟩ := of_body h
  ⟨congrArg some a, b ▸ by decide, b ▸ by decide⟩

theorem depositEnd (r : Taken Nat) : Statement (.depositEnd r) := fun _ _ _ h =>
  have ⟨a, b⟩ := of_body h
  ⟨congrArg some a, b ▸ by decide, b ▸ by decide⟩

theorem withdrawPlate (r : Taken PlateReq) : Statement (.withdrawPlate r) := fun _ _ _ h =>
  have ⟨a, b⟩ := of_body h
  ⟨congrArg some a, b ▸ by decide, b ▸ by decide⟩

theorem closeEdition (r : Taken CloseReq) : Statement (.closeEdition r) := fun _ _ _ h =>
  have ⟨a, b⟩ := of_body h
  ⟨congrArg some a, b ▸ by decide, b ▸ by decide⟩

theorem unitList (r : Taken Unit) : Statement (.unitList r) := fun _ _ _ h =>
  have ⟨a, b⟩ := of_body h
  ⟨congrArg some a, b ▸ by decide, b ▸ by decide⟩

theorem unitState (r : Taken UnitStateReq) : Statement (.unitState r) := fun _ _ _ h =>
  have ⟨a, b⟩ := of_body h
  ⟨congrArg some a, b ▸ by decide, b ▸ by decide⟩

theorem holdClass (r : Taken Nat) : Statement (.holdClass r) := fun _ _ _ h =>
  have ⟨a, b⟩ := of_body h
  ⟨congrArg some a, b ▸ by decide, b ▸ by decide⟩

theorem releaseClass (r : Taken Nat) : Statement (.releaseClass r) := fun _ _ _ h =>
  have ⟨a, b⟩ := of_body h
  ⟨congrArg some a, b ▸ by decide, b ▸ by decide⟩

theorem setCommitLimit (r : Taken Nat) : Statement (.setCommitLimit r) := fun _ _ _ h =>
  have ⟨a, b⟩ := of_body h
  ⟨congrArg some a, b ▸ by decide, b ▸ by decide⟩

theorem queueList (r : Taken Unit) : Statement (.queueList r) := fun _ _ _ h =>
  have ⟨a, b⟩ := of_body h
  ⟨congrArg some a, b ▸ by decide, b ▸ by decide⟩

theorem fetch (r : Taken FetchReq) : Statement (.fetch r) := fun _ _ _ h =>
  have ⟨a, b⟩ := of_body h
  ⟨congrArg some a, b ▸ by decide, b ▸ by decide⟩

theorem ticketList (r : Taken Unit) : Statement (.ticketList r) := fun _ _ _ h =>
  have ⟨a, b⟩ := of_body h
  ⟨congrArg some a, b ▸ by decide, b ▸ by decide⟩

theorem restore (r : Taken RestoreReq) : Statement (.restore r) := fun _ _ _ h =>
  have ⟨a, b⟩ := of_body h
  ⟨congrArg some a, b ▸ by decide, b ▸ by decide⟩

theorem jobInfo (r : Taken (Option Nat)) : Statement (.jobInfo r) := fun _ _ _ h =>
  have ⟨a, b⟩ := of_body h
  ⟨congrArg some a, b ▸ by decide, b ▸ by decide⟩

theorem cancelJob (r : Taken Nat) : Statement (.cancelJob r) := fun _ _ _ h =>
  have ⟨a, b⟩ := of_body h
  ⟨congrArg some a, b ▸ by decide, b ▸ by decide⟩

theorem setProfile (r : Taken ProfileReq) : Statement (.setProfile r) := fun _ _ _ h =>
  have ⟨a, b⟩ := of_body h
  ⟨congrArg some a, b ▸ by decide, b ▸ by decide⟩

theorem toneTable (r : Taken ToneReq) : Statement (.toneTable r) := fun _ _ _ h =>
  have ⟨a, b⟩ := of_body h
  ⟨congrArg some a, b ▸ by decide, b ▸ by decide⟩

theorem placeOrder (r : Taken PlaceOrderReq) : Statement (.placeOrder r) := fun _ _ _ h =>
  have ⟨a, b⟩ := of_body h
  ⟨congrArg some a, b ▸ by decide, b ▸ by decide⟩

theorem orderInfo (r : Taken (Option Nat)) : Statement (.orderInfo r) := fun _ _ _ h =>
  have ⟨a, b⟩ := of_body h
  ⟨congrArg some a, b ▸ by decide, b ▸ by decide⟩

theorem collect (r : Taken CollectReq) : Statement (.collect r) := fun _ _ _ h =>
  have ⟨a, b⟩ := of_body h
  ⟨congrArg some a, b ▸ by decide, b ▸ by decide⟩

theorem cancelOrder (r : Taken Nat) : Statement (.cancelOrder r) := fun _ _ _ h =>
  have ⟨a, b⟩ := of_body h
  ⟨congrArg some a, b ▸ by decide, b ▸ by decide⟩

theorem setTariff (r : Taken TariffReq) : Statement (.setTariff r) := fun _ _ _ h =>
  have ⟨a, b⟩ := of_body h
  ⟨congrArg some a, b ▸ by decide, b ▸ by decide⟩

theorem accountOpen (r : Taken AccountTermsReq) : Statement (.accountOpen r) := fun _ _ _ h =>
  have ⟨a, b⟩ := of_body h
  ⟨congrArg some a, b ▸ by decide, b ▸ by decide⟩

theorem accountCredit (r : Taken AccountCreditReq) : Statement (.accountCredit r) := fun _ _ _ h =>
  have ⟨a, b⟩ := of_body h
  ⟨congrArg some a, b ▸ by decide, b ▸ by decide⟩

theorem accountLimit (r : Taken AccountTermsReq) : Statement (.accountLimit r) := fun _ _ _ h =>
  have ⟨a, b⟩ := of_body h
  ⟨congrArg some a, b ▸ by decide, b ▸ by decide⟩

theorem accountState (r : Taken AccountStateReq) : Statement (.accountState r) := fun _ _ _ h =>
  have ⟨a, b⟩ := of_body h
  ⟨congrArg some a, b ▸ by decide, b ▸ by decide⟩

theorem accountInfo (r : Taken Nat) : Statement (.accountInfo r) := fun _ _ _ h =>
  have ⟨a, b⟩ := of_body h
  ⟨congrArg some a, b ▸ by decide, b ▸ by decide⟩

theorem holderSet (r : Taken HolderSetReq) : Statement (.holderSet r) := fun _ _ _ h =>
  have ⟨a, b⟩ := of_body h
  ⟨congrArg some a, b ▸ by decide, b ▸ by decide⟩

theorem holderPayout (r : Taken PayoutReq) : Statement (.holderPayout r) := fun _ _ _ h =>
  have ⟨a, b⟩ := of_body h
  ⟨congrArg some a, b ▸ by decide, b ▸ by decide⟩

theorem revenueInfo (r : Taken (Option Nat)) : Statement (.revenueInfo r) := fun _ _ _ h =>
  have ⟨a, b⟩ := of_body h
  ⟨congrArg some a, b ▸ by decide, b ▸ by decide⟩

theorem status (r : Taken Unit) : Statement (.status r) := fun _ _ _ h =>
  have ⟨a, b⟩ := of_body h
  ⟨congrArg some a, b ▸ by decide, b ▸ by decide⟩

theorem takeNotices (r : Taken Nat) : Statement (.takeNotices r) := fun _ _ _ h =>
  have ⟨a, b⟩ := of_body h
  ⟨congrArg some a, b ▸ by decide, b ▸ by decide⟩

theorem setFilter (r : Taken FilterReq) : Statement (.setFilter r) := fun _ _ _ h =>
  have ⟨a, b⟩ := of_body h
  ⟨congrArg some a, b ▸ by decide, b ▸ by decide⟩

theorem reset (r : Taken Unit) : Statement (.reset r) := fun _ _ _ h =>
  have ⟨a, b⟩ := of_body h
  ⟨congrArg some a, b ▸ by decide, b ▸ by decide⟩

theorem setDate (r : Taken DateReq) : Statement (.setDate r) := fun _ _ _ h =>
  have ⟨a, b⟩ := of_body h
  ⟨congrArg some a, b ▸ by decide, b ▸ by decide⟩

theorem unknownRequest (tag code : Nat) : Statement (.unknownRequest tag code) := nofun

theorem requestFrame (tag code : Nat) (body : List Byte) : Statement (.requestFrame tag code body) := nofun

theorem dataIn (tag code : Nat) (body : List Byte) : Statement (.dataIn tag code body) := nofun

theorem frameDiscard (bytes : List Byte) : Statement (.frameDiscard bytes) := nofun

theorem ticketDeliveryEnd : Statement (.ticketDeliveryEnd) := nofun

theorem itemDeliveryEnd : Statement (.itemDeliveryEnd) := nofun

theorem stallTimerExpiry (slot : Nat) : Statement (.stallTimerExpiry slot) := nofun

theorem ticketCollectExpiry (ticket : Nat) : Statement (.ticketCollectExpiry ticket) := nofun

theorem itemCollectExpiry (order item : Nat) : Statement (.itemCollectExpiry order item) := nofun

theorem closeTimerExpiry (day index : Nat) : Statement (.closeTimerExpiry day index) := nofun

theorem armTimerExpiry : Statement (.armTimerExpiry) := nofun

theorem operationLimitExpiry (unit : Nat) : Statement (.operationLimitExpiry unit) := nofun

theorem writeHoldExpiry : Statement (.writeHoldExpiry) := nofun

theorem timeBaseTick : Statement (.timeBaseTick) := nofun

theorem timeWrap : Statement (.timeWrap) := nofun

theorem dayRoll : Statement (.dayRoll) := nofun

theorem commitGrant (unit : Nat) : Statement (.commitGrant unit) := nofun

theorem readGrant (unit : Nat) : Statement (.readGrant unit) := nofun

theorem writeVerifyOk (unit : UnitOp) (start : Nat) : Statement (.writeVerifyOk unit start) := nofun

theorem writeVerifyError (unit : UnitOp) : Statement (.writeVerifyError unit) := nofun

theorem readAnswer (unit : UnitOp) (answer : Option (List Byte)) : Statement (.readAnswer unit answer) := nofun

theorem tileWritten : Statement (.tileWritten) := nofun

theorem supplyLow : Statement (.supplyLow) := nofun

theorem supplyNormal : Statement (.supplyNormal) := nofun

theorem brownoutReset : Statement (.brownoutReset) := nofun

theorem powerReset : Statement (.powerReset) := nofun

theorem supplyRecovered : Statement (.supplyRecovered) := nofun

theorem lineAssert : Statement (.lineAssert) := nofun

theorem lineRelease : Statement (.lineRelease) := nofun

theorem linkReset : Statement .linkReset := nofun

theorem unitQueryAnswer (unit capacity writeCount : Nat) : Statement (.unitQueryAnswer unit capacity writeCount) := nofun

theorem queryLimitExpiry (unit : Nat) : Statement (.queryLimitExpiry unit) := nofun

end Sys2Proof.Laws.Wire
end

