-- ==== Sys2Proof/Laws/Staging.lean ====
section
/-! SUPPORT. The Staging Pool: a grant gives different slabs that were free, and a write keeps the canonical form of
the contents, reads back, and leaves every other slab as it was (R92, R93). -/

namespace Sys2Proof.Machine

/-! ### Grants -/

@[simp] theorem pickSlabs_length (f : Nat → Nat) (n : Nat) (l : List Nat) : (pickSlabs f n l).length = n := by
  induction n generalizing l with
  | zero => rfl
  | succ n ih => simp [pickSlabs, ih]

@[simp] theorem grantedSlabs_length (n : Nat) (s : State) : (grantedSlabs n s).length = n := pickSlabs_length _ _ _

/-- The slab a pick takes is one of the list. -/
theorem pick_mem {l : List Nat} (h : l ≠ []) (k : Nat) : l.getD (k % l.length) 0 ∈ l := by
  have hk : k % l.length < l.length := Nat.mod_lt _ (List.length_pos_iff.mpr h)
  rw [List.getD_eq_getElem _ _ hk]
  exact List.getElem_mem hk

/-- Where enough are left, a pick gives different members of the list. -/
theorem pickSlabs_spec (f : Nat → Nat) (n : Nat) (l : List Nat) (hl : l.Nodup) (hn : n ≤ l.length) :
    (pickSlabs f n l).Nodup ∧ ∀ k ∈ pickSlabs f n l, k ∈ l := by
  induction n generalizing l with
  | zero => simp [pickSlabs]
  | succ n ih =>
    have hne : l ≠ [] := by rintro rfl; simp at hn
    have hm := pick_mem hne (f n)
    have ih := ih (l.erase (l.getD (f n % l.length) 0)) (hl.erase _) (by rw [List.length_erase_of_mem hm]; omega)
    refine ⟨List.nodup_cons.mpr ⟨fun h => ?_, ih.1⟩, fun k hk => ?_⟩
    · exact hl.not_mem_erase (ih.2 _ h)
    · rcases List.mem_cons.mp hk with rfl | hk
      · exact hm
      · exact List.mem_of_mem_erase (ih.2 _ hk)

/-- The free slabs are different, and none is held. -/
theorem freeSlabs_spec (s : State) :
    (freeSlabs s).Nodup ∧ ∀ k ∈ freeSlabs s, k < Config.slabTotal ∧ k ∉ heldSlabs s := by
  refine ⟨List.nodup_range.filter _, fun k hk => ?_⟩
  simpa [freeSlabs] using hk

/-- A grant gives different slabs that no holder has (R92, R93). -/
theorem grantedSlabs_spec {n : Nat} {s : State} (h : n ≤ (freeSlabs s).length) :
    (grantedSlabs n s).Nodup ∧ ∀ k ∈ grantedSlabs n s, k < Config.slabTotal ∧ k ∉ heldSlabs s :=
  have ⟨a, b⟩ := pickSlabs_spec (Config.slabPick s.freeCount) n _ (freeSlabs_spec s).1 h
  ⟨a, fun k hk => (freeSlabs_spec s).2 k (b k hk)⟩

/-! ### Contents -/

theorem overlay_ne_nil (p : Nat) {b : List Byte} (hb : b ≠ []) (old : List Byte) : overlay p b old ≠ [] := by
  simp [overlay, hb]

/-- A write lists no slab but those listed and its own. -/
theorem writeSlab_mem {k p : Nat} {b : List Byte} {m : List SlabContent} {y : SlabContent}
    (h : y ∈ writeSlab k p b m) : y ∈ m ∨ (y.slab = k ∧ b ≠ []) := by
  induction m with
  | nil => unfold writeSlab at h; split at h <;> simp_all
  | cons x m ih =>
    unfold writeSlab at h
    split at h
    · exact .inl h
    · split at h
      · rcases List.mem_cons.mp h with rfl | h
        · exact .inr ⟨rfl, by assumption⟩
        · exact .inl h
      · split at h
        · rcases List.mem_cons.mp h with rfl | h
          · exact .inr ⟨rfl, by assumption⟩
          · exact .inl (List.mem_cons_of_mem _ h)
        · rcases List.mem_cons.mp h with rfl | h
          · exact .inl (List.mem_cons_self ..)
          · exact (ih h).imp (List.mem_cons_of_mem _) id

/-- A write to one slab keeps the canonical form. -/
theorem writeSlab_wf (k p : Nat) (b : List Byte) (m : List SlabContent) (h : StagingWf m) :
    StagingWf (writeSlab k p b m) := by
  induction m with
  | nil => unfold writeSlab; split <;> simp_all [StagingWf]
  | cons x m ih =>
    obtain ⟨hp, hn⟩ := h
    have ⟨hx, hp'⟩ := List.pairwise_cons.mp hp
    unfold writeSlab
    split
    · exact ⟨hp, hn⟩
    · next hb =>
      split
      · next hk =>
        refine ⟨List.pairwise_cons.mpr ⟨fun y hy => ?_, hp⟩, fun y hy => ?_⟩
        · rcases List.mem_cons.mp hy with rfl | hy
          · exact hk
          · exact hk.trans (hx y hy)
        · rcases List.mem_cons.mp hy with rfl | hy
          · exact hb
          · exact hn y hy
      · split
        · next he =>
          refine ⟨List.pairwise_cons.mpr ⟨fun y hy => by simpa [he] using hx y hy, hp'⟩, fun y hy => ?_⟩
          rcases List.mem_cons.mp hy with rfl | hy
          · exact overlay_ne_nil p hb _
          · exact hn y (List.mem_cons_of_mem _ hy)
        · next h1 h2 =>
          have ih := ih ⟨hp', fun y hy => hn y (List.mem_cons_of_mem _ hy)⟩
          refine ⟨List.pairwise_cons.mpr ⟨fun y hy => ?_, ih.1⟩, fun y hy => ?_⟩
          · rcases writeSlab_mem hy with hy | ⟨rfl, -⟩
            · exact hx y hy
            · omega
          · rcases List.mem_cons.mp hy with rfl | hy
            · exact hn _ (List.mem_cons_self ..)
            · exact ih.2 y hy

/-- A holder's write keeps the canonical form. -/
theorem writeHolder_wf (l : List Nat) (p : Nat) (b : List Byte) (m : List SlabContent) (h : StagingWf m) :
    StagingWf (writeHolder l p b m) := by
  induction l generalizing p b m with
  | nil => exact h
  | cons k l ih =>
    unfold writeHolder
    split
    · exact ih _ _ _ (writeSlab_wf _ _ _ _ h)
    · exact ih _ _ _ h

/-- Writing no bytes writes nothing. -/
@[simp] theorem writeSlab_nil (k p : Nat) (m : List SlabContent) : writeSlab k p [] m = m := by
  cases m <;> simp [writeSlab]

/-- A slab that is not written holds what it held (R92). -/
theorem writeSlab_other {k j : Nat} (h : j ≠ k) (p : Nat) (b : List Byte) (m : List SlabContent) :
    slabHolds (writeSlab k p b m) j = slabHolds m j := by
  induction m with
  | nil => unfold writeSlab; split <;> simp [slabHolds, h.symm]
  | cons x m ih =>
    unfold writeSlab
    split
    · rfl
    · split
      · simp [slabHolds, h.symm]
      · split
        · next he => simp [slabHolds, h.symm, ← he]
        · by_cases hx : x.slab = j
          · simp [slabHolds, hx]
          · simpa [slabHolds, hx] using ih

/-- A holder's write leaves every slab that is not its own as it was (R92). -/
theorem writeHolder_other {l : List Nat} {j : Nat} (h : j ∉ l) (p : Nat) (b : List Byte) (m : List SlabContent) :
    slabHolds (writeHolder l p b m) j = slabHolds m j := by
  induction l generalizing p b m with
  | nil => rfl
  | cons k l ih =>
    have ⟨h1, h2⟩ : j ≠ k ∧ j ∉ l := by simpa using h
    unfold writeHolder
    split
    · rw [ih h2, writeSlab_other h1]
    · rw [ih h2]

/-- What is written into a slab stands in it, over what it held (R92). -/
theorem writeSlab_same {k p : Nat} {b : List Byte} (hb : b ≠ []) {m : List SlabContent} (hm : StagingWf m) :
    slabHolds (writeSlab k p b m) k = if slabHolds m k = [] then b else overlay p b (slabHolds m k) := by
  induction m with
  | nil => simp [writeSlab, hb, slabHolds]
  | cons x m ih =>
    obtain ⟨hp, hn⟩ := hm
    have ⟨hx, hp'⟩ := List.pairwise_cons.mp hp
    unfold writeSlab
    rw [if_neg hb]
    split
    · next hk =>
      have : (x :: m).find? (fun y => decide (y.slab = k)) = none := by
        refine List.find?_eq_none.mpr fun y hy => ?_
        rcases List.mem_cons.mp hy with rfl | hy
        · simp; omega
        · have := hx y hy; simp; omega
      simp [slabHolds, this]
    · split
      · next he => simp [slabHolds, he, hn x (List.mem_cons_self ..)]
      · next h1 h2 =>
        have ih := ih ⟨hp', fun y hy => hn y (List.mem_cons_of_mem _ hy)⟩
        have hne : ¬ x.slab = k := fun e => h2 e.symm
        have skip : ∀ l, slabHolds (x :: l) k = slabHolds l k := fun l => by simp [slabHolds, hne]
        rw [skip, skip, ih]

end Sys2Proof.Machine
end

