-- ==== Sys2Proof/Tests/Slice0.lean ====
section
/-! SUPPORT. Tests of the model and witnesses of the statements. Expected values come from the manual's rules and
worked examples, named in each test's comment; a `witness_` theorem shows a concrete state and operands that meet the
hypotheses of the statement it names, one for each clause. -/

namespace Sys2Proof.Tests

open Sys2Proof Sys2Proof.Machine

-- One theorem after another: each `decide +kernel` would else hold a thread while it waits for those before it.
set_option Elab.async false

/-! ### Helpers -/

/-- The state a command leaves. -/
def after (c : Instr) (s : State) : State :=
  match exec c s with
  | .next t => t
  | _ => s

/-- The state a step leaves. -/
def stepped (s : State) : State :=
  match step s with
  | .next t => t
  | _ => s

/-- The last frame the part has sent, when it is a reply. -/
def said (s : State) : Option ReplyBody :=
  match s.linkOut.getLast? with
  | some (.reply _ b) => some b
  | _ => none

/-- A request with tag 1. -/
def asks {α : Type} (a : α) : Taken α := ⟨1, some a⟩

/-- The plate 1 of page 7 of the CLOSED SCAN edition (900, 1). -/
def old : PlateRef := ⟨900, 1, 7, 1⟩

/-- A READY part: an edition CLOSED with a STORED plate and its copy, an OPEN one with a STORED plate and a FAILED one on
top, a CLOSING one with a plate QUEUED, photos STORED, FAILED and QUEUED, one account, the units ONLINE. -/
def base : State :=
  { State.reset with
    part := .ready, supplyHeld := false, date := some ⟨1000, 0, 0⟩
    units := List.replicate 4 ⟨.online, 5000, 4000, 0, 0, none⟩
    accounts := [⟨7, false, 20000, 5000, 50, 0⟩]
    photos := [⟨5, .stored, 100, 1, some ⟨3, 2⟩, 900, 12, 4000, 60, none, false, 1, 0⟩,
      ⟨6, .failed, 100, 1, none, 900, 12, 4000, 60, none, false, 0, 0⟩,
      ⟨8, .queued, 100, 1, none, 900, 12, 4000, 60, some 1005, false, 0, 0⟩]
    editions := [
      ⟨900, 1, .scan, 1, 3, .closed,
        [⟨7, [⟨.stored, 8192, some (2, 1), 1, some ⟨0, 10⟩, [5], some ⟨⟨2, 40⟩, 8192, 3, 1, 1, 0, 1⟩, 0⟩]⟩]⟩,
      ⟨1000, 2, .press, 0, 0, .opened,
        [⟨1, [⟨.stored, 70000, none, 1, some ⟨1, 0⟩, [], none, 0⟩, ⟨.failed, 9, none, 1, none, [], none, 0⟩]⟩]⟩,
      ⟨1001, 1, .press, 0, 0, .closing 1 (some 0), [⟨1, [⟨.queued, 3, none, 1, none, [], none, 0⟩]⟩]⟩]
    queue := [⟨.photo 8, 1, 1, [], [0], 0, [], none⟩, ⟨.plate ⟨1001, 1, 1, 1⟩, 1, 1, [], [1], 0, [], none⟩]
    free := 20000 }

/-- The read of ticket 41. -/
def read41 : Read := ⟨.ticket 41, .plate old, .original, 0, 10, 1, 1, crc32 [0#8]⟩

/-- Job 7 on the old plate in a state, with the items that wait for it. -/
def job (st : JobState) (l : List (Nat × Nat)) : Job :=
  ⟨7, old, 4, .routine, st, none, true, l, false, none, 0, 0, 0, 0, 0, [5], [6], [], [], none, none⟩

/-- The same with work under way: a slot bound, a ticket READING on unit 0, one READY, a job FETCHING. -/
def busy : State :=
  { base with
    slots := [some ⟨.photo 6, .photo, 3, crc32 [1#8, 2#8, 3#8], [], false, crc32Start, [2], 0⟩, none, none, none]
    tickets := [⟨41, .plate old, .original, .reading, ⟨⟨0, 10⟩, 1, crc32 [0#8]⟩, [3], []⟩,
      ⟨42, .photo 5, .original, .ready (some 0), ⟨⟨3, 2⟩, 1, crc32 [0#8]⟩, [4], [0#8]⟩]
    nextTicket := 43
    jobs := [job .fetching []]
    reads := [⟨.job 7, .plate old, .original, 0, 10, 1, 8192, 1⟩]
    units := [⟨.online, 5000, 4000, 7, 0,
        some ⟨0, .read read41 1 true, 0, 4⟩⟩,
      ⟨.online, 5000, 4000, 0, 0, none⟩, ⟨.online, 5000, 4000, 0, 0, none⟩, ⟨.online, 5000, 4000, 0, 0, none⟩] }

/-- One open order, its item READY. -/
def selling : State :=
  { base with
    accounts := [⟨7, false, 20000, 5000, 50, 13367⟩]
    orders := [⟨23, 7, 13367, 50, [⟨.photoFile, .photo 5, .none, .original, false, ⟨1500, 12, 20, 0, 0, 4000, 12, 60⟩,
      false, true, .ready (some 0), [7], some ⟨⟨3, 2⟩, 100, 1⟩, none, [0#8]⟩], [], 0⟩] }

/-- `busy` with unit 0's outstanding read or write replaced. -/
def atUnit0 (w : Work) (failures : Nat) (s : State) : State :=
  { s with units := s.units.set 0 ⟨.online, 5000, 4000, failures, 0, some ⟨0, w, 0, 4⟩⟩ }

/-- A class 0 entry in its third attempt, and `base` with its write outstanding at unit 0. -/
def third : Entry := ⟨.plate ⟨1001, 1, 1, 1⟩, 1, 1, [], [0], 3, [0, 1, 2], some (0, 0)⟩

def writing (attempts failures : Nat) : State :=
  atUnit0 (.write third.subject) failures { base with queue := [{ third with attempts := attempts }] }

/-! ### Well-formedness refuses an ill-formed command -/

theorem test_wf_tag : (Instr.status ⟨256, some ()⟩).wf = false := by decide
theorem test_wf_edition : (Instr.dropEdition (asks ⟨65536, 1⟩)).wf = false := by decide
theorem test_wf_open : (Instr.openEdition (asks ⟨1, 1, 1, 0, 256⟩)).wf = false := by decide
theorem test_wf_page : (Instr.pageInfo (asks ⟨1, 1, 256⟩)).wf = false := by decide
theorem test_wf_plate : (Instr.plateInfo (asks ⟨1, 1, 1, 256⟩)).wf = false := by decide
theorem test_wf_suppress : (Instr.suppress (asks ⟨⟨1, 1, 1, 1⟩, 65536⟩)).wf = false := by decide
theorem test_wf_file : (Instr.filePhoto (asks ⟨1, 1, 0, 1, 1, 1, 256, none⟩)).wf = false := by decide
theorem test_wf_rights : (Instr.setRights (asks ⟨1, 1, 1, 1, some 65536⟩)).wf = false := by decide
theorem test_wf_number : (Instr.barPhoto (asks 65536)).wf = false := by decide
theorem test_wf_deposit : (Instr.deposit (asks ⟨1, 1, 1, 1, 0, 0, 0, [65536]⟩)).wf = false := by decide
theorem test_wf_redeposit : (Instr.redeposit (asks ⟨⟨1, 1, 1, 1⟩, 1, 0, 256, 0, none⟩)).wf = false := by decide
theorem test_wf_slot : (Instr.depositEnd (asks 256)).wf = false := by decide
theorem test_wf_close : (Instr.closeEdition (asks ⟨1, 1, 256⟩)).wf = false := by decide
theorem test_wf_unitState : (Instr.unitState (asks ⟨256, 2⟩)).wf = false := by decide
theorem test_wf_fetch : (Instr.fetch (asks ⟨.photo 65536, 1⟩)).wf = false := by decide
theorem test_wf_restore : (Instr.restore (asks ⟨⟨1, 1, 1, 1⟩, 256, 1⟩)).wf = false := by decide
theorem test_wf_jobInfo : (Instr.jobInfo (asks (some 65536))).wf = false := by decide
theorem test_wf_profile : (Instr.setProfile (asks ⟨0, 256, 0, 0, 0⟩)).wf = false := by decide
theorem test_wf_order : (Instr.placeOrder (asks ⟨1, [⟨256, .photo 1, 1, 0⟩]⟩)).wf = false := by decide
theorem test_wf_collect : (Instr.collect (asks ⟨1, 256⟩)).wf = false := by decide
theorem test_wf_tariff : (Instr.setTariff (asks ⟨1, 1, 256, 1, 1⟩)).wf = false := by decide
theorem test_wf_terms : (Instr.accountOpen (asks ⟨1, 1, 65536⟩)).wf = false := by decide
theorem test_wf_credit : (Instr.accountCredit (asks ⟨1, 2147483648⟩)).wf = false := by decide
theorem test_wf_state : (Instr.accountState (asks ⟨1, 256⟩)).wf = false := by decide
theorem test_wf_label : (Instr.holderSet (asks ⟨1, [0x20#8]⟩)).wf = false := by decide
theorem test_wf_payout : (Instr.holderPayout (asks ⟨256, 1⟩)).wf = false := by decide
theorem test_wf_filter : (Instr.setFilter (asks ⟨1, 1, 1, 1, 256⟩)).wf = false := by decide
theorem test_wf_date : (Instr.setDate (asks ⟨65536, 0⟩)).wf = false := by decide
theorem test_wf_code : (Instr.unknownRequest 1 65536).wf = false := by decide
theorem test_wf_frame : (Instr.requestFrame 1 1 (List.replicate 4105 0#8)).wf = false := by decide +kernel
theorem test_wf_slotTimer : (Instr.stallTimerExpiry 4).wf = false := by decide
theorem test_wf_ticketTimer : (Instr.ticketCollectExpiry 0).wf = false := by decide
theorem test_wf_itemTimer : (Instr.itemCollectExpiry 1 9).wf = false := by decide
theorem test_wf_closeTimer : (Instr.closeTimerExpiry 1 7).wf = false := by decide
theorem test_wf_unit : (Instr.commitGrant 4).wf = false := by decide
theorem test_wf_okUnit : (Instr.writeVerifyOk ⟨4, 0⟩ 0).wf = false := by decide
theorem test_wf_errorUnit : (Instr.writeVerifyError ⟨4, 0⟩).wf = false := by decide
theorem test_wf_answerUnit : (Instr.readAnswer ⟨4, 0⟩ none).wf = false := by decide
theorem test_wf_query : (Instr.unitQueryAnswer 0 0 0).wf = false := by decide
theorem test_wf_accepts : (Instr.restore (asks ⟨⟨900, 1, 7, 255⟩, 3, 1⟩)).wf = true := by decide

/-! ### Checks, bodies and frames -/

/-- R52's two check values. -/
theorem test_crc32 : crc32 [0x31#8, 0x32#8, 0x33#8, 0x34#8, 0x35#8, 0x36#8, 0x37#8, 0x38#8, 0x39#8] = 0xCBF43926#32
    ∧ crc32 [0x00#8] = 0xD202EF8D#32 := by decide +kernel

/-- R191's check of the same nine bytes. -/
theorem test_crc16 : crc16 [0x31#8, 0x32#8, 0x33#8, 0x34#8, 0x35#8, 0x36#8, 0x37#8, 0x38#8, 0x39#8] = 0x29B1#16 := by
  decide +kernel

/-- One body of each family, written out from R197 and R198. -/
theorem test_body_catalogue : requestOf 1 0x0101 [0x03#8, 0xE8#8, 0x02#8, 0x01#8, 0x00#8, 0x05#8]
    = .openEdition (asks ⟨1000, 2, 1, 0, 5⟩) := by decide +kernel
theorem test_body_photo : requestOf 1 0x0202 [0x00#8, 0x05#8, 0x0C#8, 0x00#8, 0x00#8, 0x0F#8, 0xA0#8, 0x3C#8, 0x01#8, 0x03#8, 0xED#8]
    = .setRights (asks ⟨5, 12, 4000, 60, some 1005⟩) := by decide +kernel
theorem test_body_deposit : requestOf 1 0x0305 [0x03#8, 0xE8#8, 0x02#8, 0x04#8]
    = .closeEdition (asks ⟨1000, 2, 4⟩) := by decide +kernel
theorem test_body_medium : requestOf 1 0x0402 [0x03#8, 0x02#8] = .unitState (asks ⟨3, 2⟩) := by decide +kernel
theorem test_body_fetch : requestOf 1 0x0501 [0x01#8, 0x03#8, 0x84#8, 0x01#8, 0x07#8, 0xFF#8, 0x01#8]
    = .fetch (asks ⟨.plate ⟨900, 1, 7, 255⟩, 1⟩) := by decide +kernel
theorem test_body_restore : requestOf 1 0x0602 [0x01#8, 0x00#8, 0x07#8] = .jobInfo (asks (some 7)) := by decide +kernel
theorem test_body_order : requestOf 1 0x0703 [0x00#8, 0x17#8, 0x02#8] = .collect (asks ⟨23, 2⟩) := by decide +kernel
theorem test_body_account : requestOf 1 0x0803 [0x00#8, 0x07#8, 0xFF#8, 0xFF#8, 0xFF#8, 0x9C#8]
    = .accountCredit (asks ⟨7, -100⟩) := by decide +kernel
theorem test_body_link : requestOf 1 0x0902 [0x14#8] = .takeNotices (asks 20) := by decide +kernel
theorem test_body_calendar : requestOf 1 0x0A01 [0x6B#8, 0xD0#8, 0x00#8, 0x01#8, 0x4D#8, 0x76#8]
    = .setDate (asks ⟨27600, 85366⟩) := by decide +kernel
/-- A byte too many fits no body (R195). -/
theorem test_body_long : requestOf 1 0x0902 [0x14#8, 0x00#8] = .takeNotices ⟨1, none⟩ := by decide +kernel

/-! ### One step of the machine, by the manual's worked examples -/

/-- "Suppressing a Page": at tick 266,923 the arm number is 4,779; at 196,608 it is 1. -/
theorem test_arm_number :
    (after (.suppressArm (asks ⟨900, 1, 7, 1⟩)) { base with timeBase := 266923 }).arm = some ⟨old, 4779, 266923⟩
    ∧ said (after (.suppressArm (asks ⟨900, 1, 7, 1⟩)) { base with timeBase := 196608 }) = some (.done [.u16 1]) := by
  decide +kernel

/-- The same example: the STATUS taken between drops the arm, and SUPPRESS is refused BAD-ARM. -/
theorem test_status_drops_arm :
    (after (.status (asks ())) { base with arm := some ⟨old, 1, 0⟩ }).arm = none
    ∧ said (after (.suppress (asks ⟨⟨900, 1, 7, 1⟩, 1⟩)) base) = some (.refused .badArm []) := by decide +kernel

/-- R25: the plate is SUPPRESSED, its copy's extents are back on unit 2, its own extents stay. -/
theorem test_suppress :
    let t := after (.suppress (asks ⟨⟨900, 1, 7, 1⟩, 1⟩)) { base with arm := some ⟨old, 1, 0⟩ }
    (findPlate t old).map (fun p => (p.state, p.location, p.restored)) = some (.suppressed, some ⟨0, 10⟩, none)
      ∧ (unitAt t 2).free = 4001 ∧ (unitAt t 0).free = 4000 := by decide +kernel

/-- "Two Replates and a Close": expected 5 draws COUNT-MISMATCH with the page count. -/
theorem test_close_mismatch : said (after (.closeEdition (asks ⟨1000, 2, 5⟩)) base)
    = some (.refused .countMismatch [.u16 1]) := by decide +kernel

/-- The same example: a FAILED plate draws UNSETTLED with page, plate and state. -/
theorem test_close_unsettled : said (after (.closeEdition (asks ⟨1000, 2, 1⟩)) base)
    = some (.refused .unsettled [.u8 1, .u8 2, .u8 6]) := by decide +kernel

/-- R46, R44: the first deposit on page 3 is plate 1 in slot 0, and takes ceil(70,000 / 65,536) slabs. -/
theorem test_deposit :
    let t := after (.deposit (asks ⟨1000, 2, 3, 70000, 1, 0, 0, [5]⟩)) base
    said t = some (.done [.u8 0, .u8 1]) ∧ t.free = 19998 ∧ (findPhoto t 5).map (·.useCount) = some 2 := by
  decide +kernel

/-- R50, R56: three bytes in order reach the slot; the CRC agrees and the photo is QUEUED. -/
theorem test_deposit_end :
    let t := after (.depositEnd (asks 0)) (after (.dataIn 0 0 [0#8, 0#8, 0#8, 0#8, 1#8, 2#8, 3#8]) busy)
    said t = some (.done [.u8 1, .u32 3, .u16 3]) ∧ (findPhoto t 6).map (·.state) = some .queued
      ∧ slotAt t 0 = none := by decide +kernel

/-- R56's first check: nothing kept is SHORT, though the CRC differs too. -/
theorem test_deposit_short : said (after (.depositEnd (asks 0)) busy)
    = some (.done [.u8 2, .u8 24, .u32 0, .u32 3]) := by decide +kernel

/-- "One Photo Across Three Units": class 0 before class 2, though the photo is older. -/
theorem test_class_zero_first : (after (.commitGrant 1) base).queue.map (fun e => (e.attempts, e.tried))
    = [(0, []), (1, [1])] := by decide +kernel

/-- The same example: a second attempt passes over the unit tried while another has room. -/
theorem test_tried_passed_over :
    let e : Entry := ⟨.photo 8, 80, 1, [], [], 1, [2], none⟩
    canCommit base 2 e = false ∧ canCommit base 0 e = true := by decide +kernel

/-- "Had unit 2 failed one more time": the eighth failure makes the unit FAULTED, the extents back. -/
theorem test_eighth_failure :
    let t := after (.writeVerifyError ⟨0, 0⟩) (writing 1 7)
    (unitAt t 0).state = .faulted ∧ (unitAt t 0).free = 4001
      ∧ t.queue.map (fun e => (e.attempts, e.inFlight)) = [(1, none)] := by decide +kernel

/-- R73: try 1 has expired and try 2 is out; try 1's late answer is discarded, try 2's is judged. -/
theorem test_late_answer :
    let s := { atUnit0 (.read read41 1 true) 0 busy with timeBase := 400, opCount := 1 }
    let t := after (.operationLimitExpiry 0) s
    (unitAt t 0).op = some ⟨1, .read read41 2 true, 400, 4⟩ ∧ after (.readAnswer ⟨0, 0⟩ (some [0#8])) t = t
      ∧ (findTicket (after (.readAnswer ⟨0, 1⟩ (some [0#8])) t) 41).map (·.state) = some (.ready (some 400)) := by
  decide +kernel

/-- R63, R83: the last plate's OK closes the edition. -/
theorem test_close_by_commit :
    let t := after (.writeVerifyOk ⟨0, 0⟩ 77) (writing 1 0)
    (findEdition t 1001 1).map (·.state) = some .closed ∧ t.queue = []
      ∧ t.notices.map (·.kind) = [.contentStored, .editionClosed] := by decide +kernel

/-- "A Page Fetched Across Its Own Commit": a ticket's grant must leave 8,192 slabs. -/
theorem test_fetch_reserve :
    let q : FetchReq := ⟨.plate ⟨1000, 2, 1, 255⟩, 1⟩
    said (after (.fetch (asks q)) { base with free := 8193 }) = some (.retry .noRoom .none [.u8 1])
    ∧ said (after (.fetch (asks q)) { base with free := 8194, nextTicket := 42 })
      = some (.retry .notReady (.ticket 42) [.u8 1]) := by decide +kernel

/-- "Two Rasters": 8,384 free slabs are the least from which a job of 96 fetches; here 1 slab, so 8,194. -/
theorem test_job_reserve :
    let q : RestoreReq := ⟨⟨900, 1, 7, 1⟩, 5, 3⟩
    (after (.restore (asks q)) { base with free := 8194 }).jobs.map (·.state) = [.fetching]
    ∧ (after (.restore (asks q)) { base with free := 8193 }).jobs.map (·.state) = [.waiting] := by decide +kernel

/-- "The Order Across Midnight, Priced": the reservation of its two items. -/
theorem test_reservation :
    reservationOf
      [⟨.pageFile, .plate old, .profile 2, .restored 2, true, ⟨2500, 50, 20, 4, 3000, 0, 0, 0⟩, false, false, .pending,
        [], none, none, []⟩,
       ⟨.photoFile, .photo 5, .none, .original, false, ⟨1500, 12, 20, 0, 0, 4000, 12, 60⟩, false, false, .pending, [],
        none, none, []⟩] 50 = 13367 := by decide +kernel

/-- The same order's charge, 317 repaired tiles on the first item. -/
theorem test_charge :
    chargeOf
      [⟨.pageFile, .plate old, .profile 2, .restored 2, true, ⟨2500, 50, 20, 4, 3000, 0, 0, 0⟩, true, false,
        .collected, [], none, some 317, []⟩,
       ⟨.photoFile, .photo 5, .none, .original, false, ⟨1500, 12, 20, 0, 0, 4000, 12, 60⟩, false, false, .collected,
        [], none, none, []⟩] 50 = 11722 := by decide +kernel

/-- "Had the host not collected item 1": item 2 alone costs 5,767; holder 12 accrues 60 % of 4,000. -/
theorem test_settlement :
    let t := after .itemDeliveryEnd { selling with outbound := .sending (.item 23 1) [] }
    t.orders = [] ∧ t.accounts = [⟨7, false, 14233, 5000, 50, 0⟩] ∧ (t.holders[12]?).map (·.accrued) = some 2400
      ∧ t.revenue = ⟨1, 5767, 4000, 2400, 1600, 3367⟩ := by decide +kernel

/-- "Pricing at the Limits": SET-TARIFF clamps, ACCOUNT-OPEN's tier stops at 250. -/
theorem test_clamps :
    said (after (.setTariff (asks ⟨1, 1200000, 150, 500, 1500000⟩)) base)
      = some (.done [.u8 1, .u32 1000000, .u8 100, .u16 500, .u32 1000000])
    ∧ said (after (.accountOpen (asks ⟨40, 5000000, 300⟩)) base) = some (.done [.u8 40, .u32 5000000, .u16 250]) := by
  decide +kernel

/-- "Notice Pressure": the notice that brings the count to 64 is followed by QUEUE-HALF. -/
theorem test_half :
    let s := { base with notices := List.replicate 63 ⟨.dayRolled, 0, .none, []⟩ }
    let t := raise .unitFaulted (.unit 0) [] s
    t.notices.length = 65 ∧ t.halfArmed = false ∧ (t.notices.getLast?).map (·.kind) = some .queueHalf := by
  decide +kernel

/-- The same example: at 128 the notice is lost and the flag set; TAKE-NOTICES of 20 takes 16. -/
theorem test_full :
    let s := { base with notices := List.replicate 128 ⟨.dayRolled, 0, .none, []⟩, halfArmed := false }
    (raise .contentStored (.photo 5) [] s).queueFull = true ∧ (raise .contentStored (.photo 5) [] s).notices.length = 128
      ∧ (after (.takeNotices (asks 20)) s).notices.length = 112 := by decide +kernel

/-- "Worked Tiles", first page: the counts k, and two stretched values between 38 and 201. -/
theorem test_stretch : percentileCount 2 = 82 ∧ percentileCount 98 = 4015 ∧ percentileCount 1 = 41
    ∧ percentileCount 99 = 4056 ∧ percentileCount 0 = 1 ∧ stretch 38 201 90 = 81 ∧ stretch 38 201 180 = 222 := by
  decide +kernel

/-- The same: a dark speck of 0 among 222s becomes 222; a 255 among 222s stays under T 60. -/
theorem test_specks : darkSpeck 60 0 [222, 222, 222, 222] = true ∧ lightSpeck 60 255 [222, 222, 222, 222] = false
    ∧ median [222, 222, 222, 222] = 222 ∧ median [1, 9, 4, 7] = 5 := by decide +kernel

/-- "A LINE Reset During a Close": the records become INCOMPLETE, the edition OPEN, and a REQUEST draws STARTING. -/
theorem test_line_reset :
    let t := after .lineRelease (after .lineAssert base)
    t.incomplete = 2 ∧ (findEdition t 1001 1).map (·.state) = some .opened ∧ t.date = none ∧ t.part = .starting
      ∧ said (after (.ticketList (asks ())) t) = some (.retry .starting .none []) := by decide +kernel

/-- The same: READY with STARTED, and PLACE-ORDER is refused DATE-UNSET. -/
theorem test_ready :
    let q (u : Nat) := Instr.unitQueryAnswer u 5000 0
    let t := after (q 3) (after (q 2) (after (q 1) (after (q 0) (after .lineRelease (after .lineAssert base)))))
    t.part = .ready ∧ t.notices = [⟨.started, 0, .none, [.u8 3, .u16 2]⟩] ∧ t.writeHold = some 0
      ∧ (unitAt t 1).free = 4998 ∧ said (after (.placeOrder (asks ⟨7, []⟩)) t) = some (.refused .dateUnset []) := by
  decide +kernel

/-- R207: after LINK the part is STARTING, so a request draws RETRY STARTING and STATUS is answered; then it is READY. -/
theorem test_link_reset :
    let t := after .linkReset { busy with linkResetDue := true }
    let v := after .linkReset t
    t.part = .starting ∧ said (after (.ticketList (asks ())) t) = some (.retry .starting .none [])
      ∧ v.part = .ready ∧ v.notices = [⟨.started, 0, .none, [.u8 4, .u16 2]⟩] ∧ v.date = busy.date := by
  decide +kernel

/-- R51, R92: bytes 2 and 3 land in the slot's slab 2 from its byte 1 on. -/
theorem test_staging :
    let s := after (.dataIn 0 0 [0#8, 0#8, 0#8, 0#8, 1#8]) busy
    let t := after (.dataIn 0 0 [0#8, 0#8, 0#8, 1#8, 2#8, 3#8]) s
    t.staging = [⟨2, [1#8, 2#8, 3#8]⟩] ∧ (after (.depositEnd (asks 0)) t).staging = t.staging := by decide +kernel

/-- R218: what the recovery keeps: the STORED plate with its copy, the FAILED plate and the STORED photo as they were. -/
theorem test_recovery_keeps :
    let t := after .supplyRecovered { base with part := .starting, supplyHeld := true, date := none, queue := [] }
    findPlate t old = findPlate base old ∧ findPlate t ⟨1000, 2, 1, 2⟩ = findPlate base ⟨1000, 2, 1, 2⟩
      ∧ findPhoto t 5 = findPhoto base 5 ∧ (findPhoto t 8).map (fun p => (p.state, p.embargo)) = some (.incomplete, some 1005)
      ∧ t.editions.length = 3 := by decide +kernel

/-- R218: a pass over `base` makes three writes; not made, they leave the records as they were, and the next pass counts the
photo alone when only its write was not made. -/
theorem test_cut_pass :
    let t := after .lineRelease (after .lineAssert base)
    let u := t.passWrites.foldl (fun s w => undoWrite w s) t
    let v := undoWrite (.content (.photo 8) .queued none) t
    t.passWrites = [.content (.plate ⟨1001, 1, 1, 1⟩) .queued none, .content (.photo 8) .queued none, .close 1001 1 1]
      ∧ u.photos = base.photos ∧ u.editions = base.editions.map Edition.stopTimer
      ∧ (after .lineRelease (after .lineAssert { v with passWrites := [] })).incomplete = 1
      ∧ (after (.unitQueryAnswer 0 5000 0) t).passWrites = [] := by decide +kernel

/-- R212: the tick at the end of day 65,535 leaves it at 65,535. -/
theorem test_last_day : (after .timeBaseTick { base with date := some ⟨65535, 86399, 99⟩ }).date
    = some ⟨65535, 0, 0⟩ := by decide +kernel

/-- R209: the tick past the top of the time base makes it 0 and raises TIME-WRAP. -/
theorem test_wrap :
    let t := after .timeWrap { base with timeBase := 0xFFFFFFFF#32 }
    t.timeBase = 0 ∧ t.notices.map (·.kind) = [.timeWrap] := by decide +kernel

/-- R116: a RESTORE of another profile than the job's is refused PLATE-BUSY; of the copy's profile, ALREADY. -/
theorem test_restore :
    said (after (.restore (asks ⟨⟨900, 1, 7, 1⟩, 5, 1⟩)) busy) = some (.refused .plateBusy [])
    ∧ said (after (.restore (asks ⟨⟨900, 1, 7, 1⟩, 3, 1⟩)) base) = some (.done [.u8 2, .u8 3, .u16 1, .u16 1]) := by
  decide +kernel

/-- R39: a photo a plate names cannot be removed; R37: a bar frees the photo's ticket and is reported. -/
theorem test_photo_requests :
    said (after (.removePhoto (asks 5)) busy) = some (.refused .held [])
    ∧ said (after (.barPhoto (asks 5)) busy) = some (.done [.u16 1, .u16 0]) := by decide +kernel

/-! ### Witnesses: states and operands that meet each statement's hypotheses -/

/-- The step answers a next state. -/
def goes (s : State) : Bool :=
  match step s with
  | .next _ => true
  | _ => false

theorem step_stepped {s : State} (h : goes s = true) : step s = .next (stepped s) := by
  unfold goes stepped at *
  split at h
  · assumption
  · cases h

/-- A state with one command waiting. -/
def waiting (c : Instr) (s : State) : State := { s with pending := [c] }

/-- The items of `whole`'s order: photo 5, READY, and the restored copy of the old plate, which job 7 is making. -/
def wholeItems : List ItemRec :=
  [⟨.photoFile, .photo 5, .none, .original, false, ⟨1500, 12, 20, 0, 0, 4000, 12, 60⟩, false, true, .ready (some 0), [7],
      some ⟨⟨3, 2⟩, 100, 1⟩, none, [0#8]⟩,
    ⟨.pageFile, .plate old, .profile 4, .restored 4, true, ⟨2500, 50, 20, 4, 3000, 0, 0, 0⟩, true, false,
      .waitRestore (some 7), [], none, none, []⟩]

/-- `busy` with no slot bound, its counts adding up, an open order, and the arm live: the state of a part that came here by commands. -/
def whole : State :=
  { busy with
    arm := some ⟨old, 1, 0⟩
    slots := List.replicate 4 none
    accounts := [⟨7, false, 20000, 5000, 50, reservationOf wholeItems 50⟩]
    orders := [⟨23, 7, reservationOf wholeItems 50, 50, wholeItems, [2], 0⟩]
    jobs := [job .fetching [(23, 2)]]
    units := [⟨.online, 5000, 4999, 7, 0, some ⟨0, .read read41 1 true, 0, 4⟩⟩, ⟨.online, 5000, 4998, 0, 0, none⟩,
      ⟨.online, 5000, 4999, 0, 0, none⟩, ⟨.online, 5000, 4999, 0, 0, none⟩]
    opCount := 1
    free := 32761 }

theorem whole_queue : QueueWf whole := by
  refine ⟨by decide +kernel, ?_, fun u hu o ho => ?_⟩
  · refine List.forall_mem_cons.mpr ⟨?_, List.forall_mem_cons.mpr ⟨?_, by simp⟩⟩
    · show (findPhoto whole 8).any _ = true
      decide +kernel
    · show (findPlate whole ⟨1001, 1, 1, 1⟩).any _ = true
      decide +kernel
  · match u, hu, ho with
    | 0, _, ho => cases ho; exact ⟨by decide, trivial⟩
    | 1, _, ho | 2, _, ho | 3, _, ho => cases ho

theorem whole_items : ItemsWf whole :=
  List.forall_mem_cons.mpr ⟨⟨by decide, trivial⟩,
    List.forall_mem_cons.mpr ⟨⟨by decide, fun _ => ⟨by decide +kernel, by decide⟩⟩, by simp⟩⟩

theorem whole_wf : TablesWf whole ∧ WorkWf whole :=
  ⟨by decide +kernel, by decide +kernel, by decide +kernel, by decide +kernel, by decide +kernel, whole_queue,
    by decide +kernel, by decide +kernel, by decide +kernel, by decide +kernel, by decide +kernel, whole_items,
    by decide +kernel, by decide +kernel, trivial, by decide +kernel, by decide +kernel⟩

theorem witness_StepRunsFrontCommand : State.reset.pending = []
    ∧ (waiting .armTimerExpiry base).pending = .armTimerExpiry :: [] := by decide

theorem witness_NoticesStayWf : let s := waiting (.takeNotices (asks 1)) base
    NoticesWf s ∧ step s = .next (stepped s) := ⟨by decide +kernel, step_stepped (by decide +kernel)⟩

theorem witness_TablesStayWf : let s := waiting (.depositEnd (asks 0)) busy
    TablesWf s ∧ step s = .next (stepped s) := ⟨by decide +kernel, step_stepped (by decide +kernel)⟩

theorem witness_SlotsStayWf : let s := waiting (.dataIn 0 0 [0#8, 0#8, 0#8, 0#8, 1#8, 2#8, 3#8]) busy
    SlotsWf s ∧ step s = .next (stepped s) := by
  refine ⟨fun x hx y hy => ?_, step_stepped (by decide +kernel)⟩
  subst hy
  have h : some y = some ⟨.photo 6, .photo, 3, crc32 [1#8, 2#8, 3#8], [], false, crc32Start, [2], 0⟩ := by
    simpa [waiting, busy] using hx
  cases h
  exact ⟨rfl, by decide⟩

theorem witness_ClosedIsFinal : let s := waiting (.dropEdition (asks ⟨900, 1⟩)) base
    ClosedAt 900 1 s ∧ step s = .next (stepped s) := ⟨by decide +kernel, step_stepped (by decide +kernel)⟩

theorem witness_SettingsChangeByOwnRequestOnly :
    (stepped (waiting (.setCommitLimit (asks 8)) base)).commitLimit ≠ base.commitLimit
    ∧ (stepped (waiting (.setFilter (asks ⟨2, 1, 1, 1, 1⟩)) base)).filter ≠ base.filter
    ∧ (stepped (waiting (.setProfile (asks ⟨7, 2, 98, 0, 60⟩)) base)).profiles ≠ base.profiles
    ∧ (stepped (waiting (.setTariff (asks ⟨4, 1, 1, 1, 1⟩)) base)).tariff ≠ base.tariff := by decide +kernel

theorem witness_DateStaysSet : let s := waiting .lineAssert base
    s.date.isSome = true ∧ step s = .next (stepped s) ∧ (stepped s).date = none :=
  ⟨by decide, step_stepped (by decide +kernel), by decide +kernel⟩

theorem witness_RevenueNeverFalls : let s := waiting (.holderPayout (asks ⟨63, 0⟩)) base
    step s = .next (stepped s) ∧ s.holders[63]? = some factoryHolder
      ∧ (stepped s).holders[63]? = some factoryHolder := ⟨step_stepped (by decide +kernel), by decide +kernel⟩

theorem witness_AccrualsStayInStep : let s := waiting .itemDeliveryEnd { selling with outbound := .sending (.item 23 1) [] }
    AccrualsAgree s ∧ step s = .next (stepped s) :=
  ⟨⟨by decide, by decide, by decide, fun h hh => by cases hh; rfl, by decide, by decide⟩,
    step_stepped (by decide +kernel)⟩

theorem witness_ReservedIsTheOpenReservations : let s := waiting (.cancelOrder (asks 23)) selling
    ReservedAgree s ∧ step s = .next (stepped s) := ⟨by decide +kernel, step_stepped (by decide +kernel)⟩

theorem witness_RequestsAreReadAsWritten : let c := Instr.restore (asks ⟨⟨65535, 255, 255, 255⟩, 255, 255⟩)
    c.wf = true ∧ requestFrameOf c = some (1, 0x0601, [255#8, 255#8, 255#8, 255#8, 255#8, 255#8, 255#8]) := by
  decide +kernel

theorem witness_RequestFramesJoinTheBuffer : 255 < 256 ∧ 65535 < 65536 ∧ (List.replicate 4104 0#8).length ≤ 4104
    ∧ base.receiver = .hunting false := by decide +kernel

theorem witness_DataFramesFillTheirSlot :
    (255 < 256 ∧ (List.replicate 4104 0#8).length ≤ 4104
      ∧ ({ busy with receiver := .hunting true } : State).receiver = .hunting true ∧ busy.slots.length = 4)
    ∧ (StagingWf [⟨4, [1#8]⟩] ∧ [4, 2].Nodup ∧ 1 + ([2#8] : List Byte).length ≤ 65536 * [4, 2].length
      ∧ 1 % 65536 ≤ (slabHolds [⟨4, [1#8]⟩] ([4, 2].getD (1 / 65536) 0)).length)
    ∧ (65536 + ([2#8] : List Byte).length ≤ 65536 * [4, 2].length
      ∧ 65536 % 65536 ≤ (slabHolds [⟨4, [1#8]⟩] ([4, 2].getD (65536 / 65536) 0)).length) := by
  decide +kernel

theorem witness_DamagedFramesChangeNothing :
    (([] : List Byte).length ≤ 4104 ∧ 0 ≠ (crc16 (frameInner 1 255 65535 [])).toNat)
    ∧ ((2 : Nat) ≠ 1 ∧ (2 : Nat) ≠ 3) ∧ ((3 : Nat) = 3 ∧ (1 : Nat) ≠ 0)
    ∧ (4104 < 4105 ∧ 4105 < 65536) ∧ (4104 < 65535 ∧ 65535 < 65536) ∧ base.receiver = .hunting false := by
  decide +kernel

/-- The part STARTING; the part with a delivery under way. -/
def starting : State := { base with part := .starting }

def sendingTicket : State := { busy with outbound := .sending (.ticket 42) [] }

theorem witness_RequestsBeforeTheirOwnRules :
    (Takes (.ticketList ⟨255, none⟩) starting ∧ starting.part = .starting
      ∧ requestOf 1 0xFFFF [] = .unknownRequest 1 0xFFFF ∧ Takes (.unknownRequest 1 0xFFFF) starting)
    ∧ (requestFrameOf (.fetch ⟨1, none⟩) = none ∧ Acts (.fetch ⟨1, none⟩) base)
    ∧ Acts (.unknownRequest 1 0xFFFF) base
    ∧ (requestTag (.status (asks ())) = some 1 ∧ ¬ Takes (.status (asks ())) sendingTicket) := by decide +kernel

theorem witness_TakenRequestsDropTheArm :
    let c := Instr.suppressArm (asks ⟨900, 1, 7, 1⟩)
    requestTag c = some 1 ∧ Takes c base ∧ exec c base = .next (after c base) ∧ (after c base).arm ≠ none :=
  ⟨by decide, by decide +kernel, rfl, by decide +kernel⟩

theorem witness_WorkStaysWf : let s := waiting (.cancelJob (asks 7)) whole
    TablesWf s ∧ WorkWf s ∧ step s = .next (stepped s) :=
  ⟨whole_wf.1, whole_wf.2, step_stepped (by decide +kernel)⟩

theorem witness_SettledStays : let s := waiting (.cancelJob (asks 7)) whole
    TablesWf s ∧ WorkWf s ∧ Settled s ∧ step s = .next (stepped s) :=
  ⟨whole_wf.1, whole_wf.2, (settled_iff _).mpr (by decide +kernel), step_stepped (by decide +kernel)⟩

theorem witness_OpenAndDropEdition :
    Acts (.openEdition (asks ⟨1001, 6, 1, 0, 7⟩)) base ∧ Acts (.dropEdition (asks ⟨900, 1⟩)) base := by decide +kernel

theorem witness_ReportsOfRecordsChangeNothing :
    Acts (.editionInfo (asks ⟨900, 1⟩)) busy ∧ Acts (.pageInfo (asks ⟨900, 1, 7⟩)) busy
    ∧ Acts (.plateInfo (asks ⟨900, 1, 7, 255⟩)) busy ∧ Acts (.photoInfo (asks 5)) busy ∧ Acts (.unitList (asks ())) busy
    ∧ Acts (.queueList (asks ())) busy ∧ Acts (.ticketList (asks ())) busy ∧ Acts (.jobInfo (asks (some 7))) busy
    ∧ Acts (.jobInfo (asks none)) busy ∧ Acts (.orderInfo (asks (some 23))) selling
    ∧ Acts (.orderInfo (asks none)) selling := by decide +kernel

theorem findPlate_mem {s : State} {r : PlateRef} {p : Plate} (h : findPlate s r = some p) : p ∈ allPlates s := by
  simp only [findPlate, Option.bind_eq_some_iff] at h
  obtain ⟨e, he, q, hq, hp⟩ := h
  have he := List.mem_of_find?_eq_some he
  have hq := List.mem_of_find?_eq_some hq
  unfold PageSlot.plate at hp
  split at hp
  · cases hp
  · exact List.mem_flatMap.mpr ⟨e, he, List.mem_flatMap.mpr ⟨q, hq, List.mem_of_getElem? hp⟩⟩

/-- Copies on units that can be read, looked at one by one. -/
theorem readable_of {s : State}
    (h : (∀ p ∈ allPlates s, (∀ l ∈ p.location, (unitAt s l.unit).state.unreadable = false)
        ∧ ∀ c ∈ p.restored, (unitAt s c.loc.unit).state.unreadable = false)
      ∧ (∀ p ∈ s.photos, ∀ l ∈ p.location, (unitAt s l.unit).state.unreadable = false)
      ∧ ∀ j ∈ s.jobs, ∀ l ∈ j.stored, (unitAt s l.unit).state.unreadable = false) : AllReadable s := by
  refine ⟨fun x c src hs => ?_, h.2.2⟩
  cases c <;> cases x <;> simp only [copySource, Option.bind_eq_some_iff, Option.map_eq_some_iff] at hs
  · obtain ⟨p, hp, l, hl, rfl⟩ := hs
    exact (h.1 p (findPlate_mem hp)).1 l hl
  · obtain ⟨p, hp, l, hl, rfl⟩ := hs
    exact h.2.1 p (List.mem_of_find?_eq_some hp) l hl
  · obtain ⟨p, hp, c, hc, rfl⟩ := hs
    exact (h.1 p (findPlate_mem hp)).2 c hc
  · cases hs

theorem whole_readable : AllReadable whole := readable_of (by decide +kernel)

/-- `busy` with the arm live on the old plate, and its job COMMITTING. -/
def armed : State := { busy with arm := some ⟨old, 1, 0⟩ }

def armedCommitting : State := { armed with jobs := busy.jobs.map fun j => { j with state := .committing } }

theorem witness_SuppressionWithdrawsThePlate :
    Acts (.suppressArm (asks ⟨900, 1, 7, 1⟩)) base
    ∧ (Acts (.suppress (asks ⟨⟨900, 1, 7, 1⟩, 2⟩)) armed ∧ armed.arm = some ⟨old, 1, 0⟩)
    ∧ (Acts (.suppress (asks ⟨⟨900, 1, 7, 1⟩, 1⟩)) armedCommitting
      ∧ (jobOn armedCommitting old).map (·.state) = some .committing)
    ∧ (Acts (.suppress (asks ⟨⟨900, 1, 7, 1⟩, 1⟩)) whole ∧ whole.arm = some ⟨old, 1, 0⟩
      ∧ (jobOn whole old).map (·.state) = some .fetching ∧ (findPlate whole old).isSome = true)
    ∧ TablesWf whole ∧ WorkWf whole ∧ AllReadable whole :=
  ⟨by decide +kernel, by decide +kernel, by decide +kernel, by decide +kernel, whole_wf.1, whole_wf.2, whole_readable⟩

theorem witness_FilePhotoBindsASlot : Acts (.filePhoto (asks ⟨9, 1, 0, 1, 63, 10000000, 100, none⟩)) base
    ∧ Acts (.filePhoto (asks ⟨6, 67108864, 0, 1, 0, 0, 0, some 1⟩)) base := by decide +kernel

/-- Order 23's first item in WAIT-EMBARGO, under a turn list. -/
def embargoed (turn : List Nat) : State :=
  { selling with orders := selling.orders.map fun x =>
    { x with turn := turn, items := x.items.map fun y => { y with state := .waitEmbargo, slabs := [] } } }

theorem witness_RightsAndBars :
    Acts (.setRights (asks ⟨5, 63, 10000000, 100, none⟩)) base ∧ Acts (.unbarPhoto (asks 5)) base
    ∧ (Acts (.barPhoto (asks 9)) busy ∧ findPhoto busy 9 = none)
    ∧ (Acts (.barPhoto (asks 5)) whole ∧ (findPhoto whole 5).isSome = true)
    ∧ (TablesWf whole ∧ WorkWf whole ∧ AllReadable whole)
    ∧ ((findOrder (embargoed []) 23).isSome = true ∧ (findOrder (embargoed [2]) 23).isSome = true ∧ [1].Nodup
      ∧ ∀ i ∈ [1], (findItem (embargoed []) 23 i).map (·.state) = some .waitEmbargo
        ∧ (findItem (embargoed [2]) 23 i).map (·.state) = some .waitEmbargo) :=
  ⟨by decide +kernel, by decide +kernel, by decide +kernel, by decide +kernel, ⟨whole_wf.1, whole_wf.2, whole_readable⟩,
    by decide +kernel⟩

theorem witness_RemovePhotoDeletesTheRecord : Acts (.removePhoto (asks 5)) base ∧ Acts (.removePhoto (asks 8)) base := by
  decide +kernel

theorem witness_DepositPushesAPlate : Acts (.deposit (asks ⟨1000, 2, 192, 134217728, 0, 0, 0, [5, 8]⟩)) base := by
  decide +kernel

theorem witness_PushThenRemoveGivesBack : ∃ e : Edition, e.pages ≠ [] ∧ (e.pages.map (·.page)).Pairwise (· < ·)
    ∧ ∀ x ∈ e.pages, x.plates ≠ [] :=
  ⟨⟨1, 1, .press, 0, 0, .opened, [⟨1, [⟨.stored, 1, none, 0, none, [], none, 0⟩]⟩]⟩, by decide, by decide, by decide⟩

theorem witness_RedepositRefillsThePlate : Acts (.redeposit (asks ⟨⟨1000, 2, 1, 2⟩, 1, 0, 0, 0, none⟩)) base
    ∧ Acts (.redeposit (asks ⟨⟨1000, 2, 1, 255⟩, 1, 0, 0, 0, some [5]⟩)) base := by decide +kernel

theorem witness_DepositEndQueuesOrFails : Acts (.depositEnd (asks 0)) busy ∧ Acts (.depositEnd (asks 3)) busy
    ∧ Acts (.depositEnd (asks 4)) busy := by decide +kernel

theorem witness_WithdrawPlateRemovesTheTop : Acts (.withdrawPlate (asks ⟨1000, 2, 1, 2⟩)) base
    ∧ (⟨.receiving, 9, none, 1, none, [], none, 0⟩ : Plate).state = .receiving
    ∧ (findPlate base ⟨1001, 1, 1, 1⟩).map (·.state) = some .queued
    ∧ (findPlate base old).map (·.state) = some .stored
    ∧ (findPlate base ⟨1000, 2, 1, 2⟩).map (·.state) = some .failed := by decide +kernel

theorem witness_CloseEditionClosesOrStarts : Acts (.closeEdition (asks ⟨1000, 2, 192⟩)) base := by decide +kernel

theorem witness_DepositTimersExpire :
    (∃ x, busy.slots[0]? = some (some x)) ∧ slotAt busy 1 = none ∧ slotAt busy 4 = none
    ∧ ∃ e, findEdition base 1001 1 = some e ∧ e.state = .closing 1 (some 0) :=
  ⟨⟨_, rfl⟩, by decide, by decide, ⟨_, rfl, rfl⟩⟩

theorem witness_ArbiterTakesTheFirstOfTheHighestClass :
    (unitAt busy 0).op ≠ none
    ∧ (∃ e, arbiterChoice base 3 = some (.commit e))
    ∧ (∃ r, arbiterChoice { base with queue := [], reads := [read41] } 0 = some (.read r))
    ∧ (arbiterChoice { base with queue := [] } 3 = none ∧ (unitAt { base with queue := [] } 3).op = none) :=
  ⟨by decide, ⟨_, rfl⟩, ⟨_, rfl⟩, by decide +kernel⟩

theorem witness_GrantsSendTheWork : 3 < base.units.length
    ∧ (∃ e, arbiterChoice base 3 = some (.commit e))
    ∧ (∃ r, arbiterChoice { base with queue := [], reads := [read41] } 0 = some (.read r))
    ∧ arbiterChoice { base with queue := [] } 3 = none := ⟨by decide, ⟨_, rfl⟩, ⟨_, rfl⟩, by decide +kernel⟩

/-- `base` with photo 8's write outstanding at unit 0. -/
def writingPhoto : State :=
  atUnit0 (.write (.photo 8)) 0 { base with queue := [⟨.photo 8, 1, 1, [], [0], 1, [0], some (0, 0)⟩] }

/-- `base` with the write of job 7's output outstanding at unit 0, in an attempt. -/
def copyEntry (attempts : Nat) : Entry := ⟨.restored 7, 1, 1, [], [6], attempts, [0], some (0, 0)⟩

def writingCopy (attempts : Nat) : State :=
  atUnit0 (.write (.restored 7)) 0 { base with queue := [copyEntry attempts], jobs := [job .committing []] }

theorem witness_WriteOkStoresTheContent :
    writeAt base 0 0 = none
    ∧ (∀ o ∈ (unitAt (writing 1 0) 0).op, o.number ≠ 1)
    ∧ (∃ e p, writeAt (writing 1 0) 0 0 = some e ∧ e.subject = .plate ⟨1001, 1, 1, 1⟩
      ∧ findPlate (writing 1 0) ⟨1001, 1, 1, 1⟩ = some p)
    ∧ (∃ x, findEdition (setStored (.plate ⟨1001, 1, 1, 1⟩) ⟨0, 9⟩ (writing 1 0)) 1001 1 = some x ∧ x.isClosing = true
      ∧ x.unstored = 0)
    ∧ (∃ x, findEdition base 1001 1 = some x ∧ x.isClosing = true ∧ x.unstored ≠ 0)
    ∧ (∃ e p, writeAt writingPhoto 0 0 = some e ∧ e.subject = .photo 8 ∧ findPhoto writingPhoto 8 = some p)
    ∧ writeAt (writingCopy 1) 0 0 = some (copyEntry 1) :=
  ⟨by decide, by decide, ⟨_, _, rfl, rfl, rfl⟩, ⟨_, rfl, rfl, by decide +kernel⟩,
    ⟨_, rfl, rfl, by decide +kernel⟩, ⟨_, _, rfl, rfl, rfl⟩, by decide +kernel⟩

theorem witness_WriteErrorRetriesThenFails :
    (∀ o ∈ (unitAt (writing 1 0) 0).op, o.number ≠ 1)
    ∧ (∃ e, writeAt (writing 2 6) 0 0 = some e ∧ e.attempts < 3 ∧ (unitAt (writing 2 6) 0).failures < 7
      ∧ (unitAt (writing 2 6) 0).state ≠ .faulted)
    ∧ (∃ e p, writeAt (writing 3 0) 0 0 = some e ∧ 3 ≤ e.attempts ∧ e.subject = .plate ⟨1001, 1, 1, 1⟩
      ∧ findPlate (writing 3 0) ⟨1001, 1, 1, 1⟩ = some p)
    ∧ (∃ e, writeAt (writing 1 7) 0 0 = some e ∧ 7 ≤ (unitAt (writing 1 7) 0).failures)
    ∧ (findEntry (writing 2 6) third.subject = some { third with attempts := 2 }
      ∧ findEntry (writing 3 7) third.subject = some third ∧ (findEdition (writing 3 7) 1001 1).isSome = true)
    ∧ (∃ e, findEntry { writingPhoto with queue := writingPhoto.queue.map fun x => { x with attempts := 3 } } (.photo 8)
        = some e ∧ 3 ≤ e.attempts)
    ∧ findEntry (writingCopy 3) (.restored 7) = some (copyEntry 3) :=
  ⟨by decide, ⟨_, rfl, by decide, by decide, by decide⟩, ⟨_, _, rfl, by decide, rfl, rfl⟩, ⟨_, rfl, by decide⟩,
    by decide +kernel, ⟨_, rfl, by decide⟩, by decide +kernel⟩

/-- `whole` with the read of an owner outstanding at unit 0, or one waiting. -/
def readBy (o : Owner) (try_ : Nat) : State := atUnit0 (.read { read41 with owner := o } try_ true) 6 whole

def readWaits (o : Owner) : State := { whole with reads := [{ read41 with owner := o }] }

theorem witness_ReadAnswersLandOrRetry :
    (crc32 (([0#8] : List Byte).take read41.size) = read41.check
      ∧ crc32 (([1#8] : List Byte).take read41.size) ≠ read41.check)
    ∧ (∀ o ∈ [Owner.ticket 41, .job 7, .item 23 1], ∀ k ∈ [1, 2],
        (unitAt (readBy o k) 0).op = some ⟨0, .read { read41 with owner := o } k true, 0, 4⟩)
    ∧ (findItem (readBy (.item 23 1) 1) 23 1).isSome = true
    ∧ (unitAt (atUnit0 (.read read41 1 false) 0 busy) 0).op = some ⟨0, .read read41 1 false, 0, 4⟩
    ∧ ((unitAt busy 3).op = none ∧ ∀ o ∈ (unitAt busy 0).op, o.number ≠ 1)
    ∧ ((findTicket (readBy (.ticket 41) 2) 41).isSome = true ∧ (findPlate whole old).isSome = true
      ∧ (findPhoto whole 5).isSome = true)
    ∧ ((∀ r ∈ base.reads, r.owner ≠ .ticket 41)
      ∧ ∀ o ∈ [Owner.ticket 41, .job 7, .item 23 1],
        ((readWaits o).reads.find? fun r => decide (r.owner = o)) = some { read41 with owner := o }) := by
  decide +kernel

theorem witness_OperationLimitsExpire :
    (unitAt base 0).op = none
    ∧ ((unitAt { busy with timeBase := 399 } 0).op = some ⟨0, .read read41 1 true, 0, 4⟩
      ∧ (({ busy with timeBase := 399 } : State).timeBase - 0).toNat < 100 * 4)
    ∧ (100 * 4 ≤ (({ busy with timeBase := 400 } : State).timeBase - 0).toNat
      ∧ (unitAt { busy with timeBase := 400 } 0).op = some ⟨0, .read read41 1 true, 0, 4⟩)
    ∧ (unitAt (readBy (.ticket 41) 2) 0).op = some ⟨0, .read read41 2 true, 0, 4⟩
    ∧ (unitAt (atUnit0 (.read read41 2 false) 0 busy) 0).op = some ⟨0, .read read41 2 false, 0, 4⟩
    ∧ ((unitAt (atUnit0 (.write (.photo 7)) 0 busy) 0).op = some ⟨0, .write (.photo 7), 0, 4⟩
      ∧ findEntry (atUnit0 (.write (.photo 7)) 0 busy) (.photo 7) = none)
    ∧ (writeAt (writing 2 6) 0 0).isSome = true := by decide +kernel

theorem witness_UnitSettings :
    Acts (.unitState (asks ⟨3, 4⟩)) base ∧ Acts (.holdClass (asks 2)) base ∧ Acts (.releaseClass (asks 3)) base
    ∧ Acts (.setCommitLimit (asks 16)) base := by decide +kernel

theorem witness_ReferencesResolveAndFetchServes :
    (∃ x, resolve base ⟨1000, 2, 1, 2⟩ = .ok x) ∧ (∃ x, resolve base ⟨900, 1, 7, 255⟩ = .ok x)
    ∧ findEdition base 900 2 = none
    ∧ (∃ e, findEdition base 1001 1 = some e ∧ e.slot 2 = none)
    ∧ (∃ e p, findEdition base 1001 1 = some e ∧ e.slot 1 = some p ∧ p.plates.length < 2
        ∧ ∀ x ∈ p.plates, x.state ≠ .stored)
    ∧ (∃ e p, findEdition base 1000 2 = some e ∧ e.slot 1 = some p ∧ p.plates.length = 2
        ∧ ∃ x ∈ p.plates, x.state = .stored)
    ∧ (Acts (.fetch (asks ⟨.plate ⟨900, 1, 7, 255⟩, 2⟩)) busy ∧ Acts (.fetch (asks ⟨.photo 5, 1⟩)) busy)
    ∧ (0 ≠ latest ∧ 9 ≠ latest ∧ 8 < 9)
    ∧ (resolve base ⟨900, 2, 7, 8⟩ = .error .noSuch ∧ resolve base ⟨1001, 1, 1, 255⟩ = .error .noSuch)
    ∧ (1 ≤ 255 ∧ ([255, 7] : List Nat).length < 255 ∧ 255 ∈ [255, 7] ∧ 1 ∉ [255, 7]) :=
  ⟨⟨_, rfl⟩, ⟨_, rfl⟩, by decide, ⟨_, rfl, by decide⟩, ⟨_, _, rfl, rfl, by decide, by decide⟩,
    ⟨_, _, rfl, rfl, by decide, by decide⟩, by decide +kernel, by decide, ⟨rfl, rfl⟩, by decide⟩

theorem witness_TicketsEndByDeliveryOrExpiry :
    (sendingTicket.outbound = .sending (.ticket 42) [] ∧ (findTicket sendingTicket 42).isSome = true)
    ∧ busy.outbound = .idle ∧ (findTicket busy 42).map (·.state) = some (.ready (some 0)) := by decide +kernel

/-- `base` with job 7 in a state, as it stands at the end of its stage. -/
def jobIn (j : Job) : State := { base with jobs := [j] }

theorem witness_RestoreAndCancelJob : Acts (.restore (asks ⟨⟨900, 1, 7, 255⟩, 7, 3⟩)) base
    ∧ (TablesWf whole ∧ WorkWf whole)
    ∧ (Acts (.cancelJob (asks 256)) busy ∧ Acts (.cancelJob (asks 7)) whole
      ∧ findJob whole 7 = some (job .fetching [(23, 2)]))
    ∧ ((∀ x ∈ [(23, 2)], 1 ≤ x.2) ∧ (findItem whole 23 2).isSome = true)
    ∧ ((∃ j ∈ busy.jobs, j.state = .fetching) ∧ ∀ j ∈ base.jobs, j.state ≠ .waiting)
    ∧ ((∀ j ∈ (jobIn (job .waiting [])).jobs, j.state ≠ .fetching)
      ∧ (queueOrder (jobIn (job .waiting []))).find? (fun j => decide (j.state = .waiting)) = some (job .waiting [])
      ∧ (copySource (jobIn (job .waiting [])) (.plate old) .original).isSome = true)
    ∧ ((findJob (jobIn { job .fetching [] with landed := true }) 7).isSome = true
      ∧ findJob (jobIn (job .repaired [])) 7 = some (job .repaired [])
      ∧ ((findJob (jobIn { job .committing [] with stored := some ⟨1, 0⟩ }) 7).isSome = true
        ∧ (findPlate (jobIn { job .committing [] with stored := some ⟨1, 0⟩ }) old).isSome = true)
      ∧ findEntry whole (.restored 7) = none) :=
  ⟨by decide +kernel, whole_wf, by decide +kernel, by decide +kernel, by decide +kernel, by decide +kernel, by decide +kernel⟩

theorem witness_ProfileRequestsWriteTheStore : Acts (.setProfile (asks ⟨7, 49, 51, 0, 255⟩)) base
    ∧ Acts (.toneTable (asks ⟨0, List.replicate 256 0#8⟩)) base := by decide +kernel

/-- `busy` with its job REPAIRING its two tiles, at one of them. -/
def repairing (k : Nat) : State :=
  { busy with engine := some ⟨7, k⟩, jobs := busy.jobs.map fun j => { j with state := .repairing } }

theorem witness_WrittenTilesCount : busy.engine = none
    ∧ ((repairing 0).engine = some ⟨7, 0⟩ ∧ ∃ j, findJob (repairing 0) 7 = some j ∧ 0 + 1 < jobTiles (repairing 0) j)
    ∧ ((repairing 1).engine = some ⟨7, 1⟩ ∧ ∃ j, findJob (repairing 1) 7 = some j ∧ jobTiles (repairing 1) j ≤ 1 + 1) :=
  ⟨rfl, ⟨rfl, _, rfl, by decide⟩, rfl, _, rfl, by decide⟩

theorem point_here {px : List Nat} {k n v : Nat} (h : k ≤ cumulative px v) : pointFrom px k n v = v := by
  cases n <;> simp [pointFrom, h]

theorem point_flat (n k : Nat) (h : k ≤ n) : greyPoint ((List.replicate n 0#8).map (·.toNat)) k = 0 :=
  point_here (by simpa [cumulative, List.countP_replicate] using h)

/-- A tile of one value is flat under an S_min of 1 and not under 0. -/
theorem witness_TilesAreComputedByTheRules :
    (List.replicate 4096 0#8).length = 4096 ∧ (∀ x ∈ List.replicate 4096 (255 : Nat), x ≤ 255)
    ∧ greyPoint ((List.replicate 4096 0#8).map (·.toNat)) (percentileCount 49) = 0
    ∧ greyPoint ((List.replicate 4096 0#8).map (·.toNat)) (percentileCount 51) = 0 :=
  ⟨List.length_replicate, fun x hx => (List.eq_of_mem_replicate hx).le, point_flat _ _ (by decide), point_flat _ _ (by decide)⟩

/-- A tile half black and half white, and a profile under which it is clean. -/
def halfTile : List Byte := List.replicate 2048 0#8 ++ List.replicate 2048 255#8

def plain : Profile := ⟨0, 100, 1, 255, List.range 256⟩

theorem near_ne (r c : Nat) : neighbours r c ≠ [] := by
  unfold neighbours
  by_cases h : 0 < r
  · simp [h]
  · have : r < 63 := by omega
    simp [this]

theorem half_cumulative (m n v : Nat) (h : v < 255) :
    cumulative ((List.replicate m 0#8 ++ List.replicate n 255#8).map (·.toNat)) v = m := by
  have : ¬ 255 ≤ v := by omega
  simp [cumulative, List.countP_replicate, this]

theorem half_black : greyPoint (halfTile.map (·.toNat)) (percentileCount 0) = 0 :=
  point_here (by rw [halfTile, half_cumulative _ _ _ (by decide)]; decide)

theorem half_white (n v : Nat) (hv : n + v = 255) : pointFrom (halfTile.map (·.toNat)) 4096 n v = 255 := by
  induction n generalizing v with
  | zero => simp [pointFrom]; omega
  | succ n ih =>
    rw [pointFrom, if_neg (by rw [halfTile, half_cumulative _ _ _ (by omega)]; decide), ih _ (by omega)]

theorem half_points : greyPoint (halfTile.map (·.toNat)) (percentileCount 100) = 255 := half_white 255 0 rfl

/-- Under a threshold of 255 no pixel within 0 to 255 is a speck. -/
theorem no_speck (a : Array Nat) (h : ∀ r c, pixelAt a r c ≤ 255) (r c : Nat) : (despeckled 255 a r c).2 = false := by
  obtain ⟨p, hp⟩ := List.exists_mem_of_ne_nil _ (near_ne r c)
  have d : darkSpeck 255 (pixelAt a r c) ((neighbours r c).map fun p => pixelAt a p.1 p.2) = false :=
    List.all_eq_false.mpr ⟨_, List.mem_map_of_mem hp, by have := h p.1 p.2; simp; omega⟩
  have l : lightSpeck 255 (pixelAt a r c) ((neighbours r c).map fun p => pixelAt a p.1 p.2) = false :=
    List.all_eq_false.mpr ⟨_, List.mem_map_of_mem hp, by have := h r c; simp; omega⟩
  simp [despeckled, d, l]

/-- The clause about a clean tile. -/
theorem witness_TilesAreComputedByTheRules_clean : (computeTile plain halfTile).kind = .clean := by
  have h0 : ∀ (r c : Nat), (despeckled 255 ((halfTile.map (·.toNat)).map (stretch 0 255)).toArray r c).2 = false := by
    refine no_speck _ fun r c => ?_
    unfold pixelAt
    rw [Array.getD_eq_getD_getElem?, List.getElem?_toArray]
    cases h : ((halfTile.map (·.toNat)).map (stretch 0 255))[r * 64 + c]? with
    | none => simp
    | some x =>
      obtain ⟨y, -, rfl⟩ := List.mem_map.mp (List.mem_of_getElem? h)
      simp only [Option.getD_some, stretch]
      split
      · simp
      · split
        · simp
        · omega
  have h1 : (tilePositions.map fun rc => despeckled 255 ((halfTile.map (·.toNat)).map (stretch 0 255)).toArray rc.1 rc.2).countP
      (·.2) = 0 := List.countP_eq_zero.mpr (by simp only [List.mem_map]; rintro _ ⟨x, -, rfl⟩; simp only [h0]; simp)
  unfold computeTile
  simp only [plain, half_black, half_points, h1]
  rfl

theorem witness_PlaceOrderReservesAndStarts :
    Acts (.placeOrder (asks ⟨7, [⟨4, .photo 5, 1, 0⟩, ⟨2, .plate ⟨900, 1, 7, 255⟩, 3, 2⟩]⟩)) base := by decide +kernel

theorem witness_CollectDeliversReadyItems :
    Acts (.collect (asks ⟨23, 1⟩)) selling ∧ Acts (.collect (asks ⟨255, 8⟩)) selling
    ∧ (findItem { selling with outbound := .sending (.item 23 1) [] } 23 1).isSome = true
    ∧ selling.outbound = .idle ∧ (findItem selling 23 1).map (·.state) = some (.ready (some 0)) := by decide +kernel

/-- `whole` with no job: its second item in a state of its own, under wait lists. -/
def itemIn (st : ItemState) (slabs restores : List (Nat × Nat)) : State :=
  { whole with
    jobs := [], slabWait := slabs, restoreWait := restores
    orders := whole.orders.map fun x => { x with items := x.items.mapIdx fun k y =>
      if k = 1 then { y with state := st } else y } }

/-- Order 23 with its photo item alone, PENDING and active. -/
def photoActive : State :=
  { selling with orders := selling.orders.map fun x =>
    { x with turn := [1], items := x.items.map fun y => { y with state := .pending, slabs := [], embargoPassed := false } } }

theorem witness_CancelOrderGivesUpTheItems :
    (Acts (.cancelOrder (asks 23)) whole ∧ TablesWf whole ∧ WorkWf whole ∧ AllReadable whole
      ∧ ∃ x, findOrder whole 23 = some x ∧ ∃ it ∈ x.items, it.live = true)
    ∧ (findItem base 23 1 = none
      ∧ ∀ st ∈ [ItemState.pending, .waitRestore none, .waitRestore (some 7), .waitEmbargo, .fetching, .ready (some 0)],
        (findItem (itemIn st [] []) 23 2).any ItemRec.live = true)
    ∧ findJob whole 7 = some (job .fetching [(23, 2)])
    ∧ (∃ x it, findOrder (itemIn .pending [] []) 23 = some x ∧ x.turn.head? = some 2 ∧ x.item 2 = some it
      ∧ it.state = .pending ∧ (23, 2) ∉ (itemIn .pending [] []).slabWait ∧ it.subject = .plate old)
    ∧ (∃ x it, findOrder photoActive 23 = some x ∧ x.turn.head? = some 1 ∧ x.item 1 = some it
      ∧ it.state = .pending ∧ (23, 1) ∉ photoActive.slabWait ∧ it.subject = .photo 5)
    ∧ (readyToWork photoActive 23 1 = true ∧ ∃ it, findItem photoActive 23 1 = some it ∧ it.subject = .photo 5)
    ∧ (readyToWork (itemIn .pending [] []) 23 2 = true ∧ ∃ it, findItem (itemIn .pending [] []) 23 2 = some it
      ∧ it.subject = .plate old ∧ it.bound = .restored 4 ∧ presentProfile (itemIn .pending [] []) old ≠ some 4)
    ∧ (base.slabWait = [] ∧ ∃ it src, findItem { photoActive with slabWait := [(23, 1)] } 23 1 = some it
      ∧ copySource { photoActive with slabWait := [(23, 1)] } it.subject it.bound.copy = some src)
    ∧ (23, 2) ∈ (itemIn (.waitRestore none) [] [(23, 2)]).restoreWait :=
  ⟨⟨by decide +kernel, whole_wf.1, whole_wf.2, whole_readable, _, rfl, by decide +kernel⟩, by decide +kernel, by decide +kernel,
    ⟨_, _, rfl, rfl, rfl, rfl, by decide, rfl⟩, ⟨_, _, rfl, rfl, rfl, rfl, by decide, rfl⟩,
    ⟨by decide +kernel, _, rfl, rfl⟩, ⟨by decide +kernel, _, rfl, rfl, rfl, by decide +kernel⟩,
    ⟨rfl, _, _, rfl, rfl⟩, by decide⟩

theorem witness_ChargeNeverExceedsReservation :
    let l := selling.orders.flatMap (·.items)
    250 ≤ 250 ∧ l ≠ [] ∧ (∀ i ∈ l, i.causedRepair = true → i.toBeMade = true) ∧ ∀ i ∈ l, i.state ≠ .collected := by
  decide +kernel

theorem witness_TariffAndAccountRequests :
    Acts (.setTariff (asks ⟨4, 1, 1, 1, 1⟩)) base ∧ Acts (.accountOpen (asks ⟨255, 100000000, 250⟩)) base
    ∧ Acts (.accountCredit (asks ⟨7, -25000⟩)) base ∧ Acts (.accountLimit (asks ⟨7, 0, 0⟩)) base
    ∧ Acts (.accountState (asks ⟨7, 2⟩)) base ∧ Acts (.holderSet (asks ⟨63, List.replicate 16 0x7E#8⟩)) base
    ∧ (Acts (.holderPayout (asks ⟨63, 0⟩)) base ∧ base.holders[63]? = some factoryHolder)
    ∧ (63 < 64 ∧ Acts (.holderPayout (asks ⟨64, 0⟩)) base) := by decide +kernel

theorem witness_RaisedNoticesAreQueued : State.reset.part = .starting ∧ base.part = .ready := by decide

theorem witness_NoticeRequests : Acts (.takeNotices (asks 0)) base ∧ Acts (.takeNotices (asks 17)) base
    ∧ Acts (.setFilter (asks ⟨1, 2, 1, 2, 1⟩)) base := by decide +kernel

theorem witness_AccountReportsAndStatus :
    Acts (.accountInfo (asks 255)) base ∧ (base.holders[63]? = some factoryHolder ∧ Acts (.revenueInfo (asks (some 63))) base)
    ∧ (63 < 64 ∧ Acts (.revenueInfo (asks (some 64))) base)
    ∧ Acts (.revenueInfo (asks none)) base ∧ Takes (.status (asks ())) starting ∧ Takes (.status ⟨1, none⟩) starting := by
  decide +kernel

/-- `base` at a time base and a time of day. -/
def at_ (t : Tick) (d : Option Date) : State := { base with timeBase := t, date := d }

theorem witness_DateAndTicks :
    Acts (.setDate (asks ⟨65535, 86399⟩)) base
    ∧ ((at_ 0xFFFFFFFE#32 none).timeBase ≠ 0xFFFFFFFF#32 ∧ (at_ 0xFFFFFFFE#32 none).date = none)
    ∧ ((at_ 0 (some ⟨1, 86399, 98⟩)).date = some ⟨1, 86399, 98⟩ ∧ 98 < 99)
    ∧ ((at_ 0 (some ⟨1, 86398, 99⟩)).date = some ⟨1, 86398, 99⟩ ∧ 99 ≤ 99 ∧ 86398 < 86399)
    ∧ ((at_ 0 (some ⟨65535, 86399, 99⟩)).date = some ⟨65535, 86399, 99⟩ ∧ 99 ≤ 99 ∧ 86399 ≤ 86399)
    ∧ ((at_ 0xFFFFFFFF#32 none).timeBase = 0xFFFFFFFF#32 ∧ (at_ 0xFFFFFFFF#32 none).date = none)
    ∧ (∀ d ∈ [⟨1, 86399, 98⟩, ⟨1, 86398, 99⟩, ⟨65535, 86399, 99⟩],
      (at_ 0xFFFFFFFF#32 (some d)).timeBase = 0xFFFFFFFF#32 ∧ (at_ 0xFFFFFFFF#32 (some d)).date = some d) := by
  decide +kernel

theorem witness_ArmHoldAndSupply :
    armed.arm = some ⟨old, 1, 0⟩ ∧ base.arm = none
    ∧ ({ base with writeHold := some 0 } : State).writeHold = some 0 ∧ base.writeHold = none
    ∧ (base.supplyHeld = false ∧ base.supply = .normal) ∧ State.reset.supplyHeld = true
    ∧ ({ base with supply := .low } : State).supply = .low := by
  decide +kernel

theorem witness_HardResetsDiscardVolatileWork : busy.lineHeld = false ∧ base.outbound = .idle ∧ base.passWrites = []
    ∧ ({ starting with lineHeld := true } : State).lineHeld = true
    ∧ ({ busy with outbound := .sending (.ticket 42) (deliveryFrames 1 [0#8] []) } : State).outbound
      = .sending (.ticket 42) [.dataOut 1 0 [0#8], .reply 1 (.done [])] := by decide +kernel

/-- Every position settled but position 3, and every position but positions 2 and 3. -/
def query3 : State := { starting with queries := [none, none, none, some 0] }

def query23 : State := { starting with queries := [none, none, some 0, some 0] }

theorem witness_StartUpSettlesThePart :
    (State.reset.supplyHeld = true ∧ State.reset.lineHeld = false)
    ∧ (({ State.reset with lineHeld := true } : State).supplyHeld = true
      ∧ ({ State.reset with lineHeld := true } : State).lineHeld = true)
    ∧ base.supplyHeld = false
    ∧ (({ starting with lineHeld := true } : State).lineHeld = true
      ∧ ({ starting with lineHeld := true } : State).supplyHeld = false)
    ∧ base.lineHeld = false ∧ query3.queries[3]? = some (some 0)
    ∧ (query23.queries[3]? = some (some 0) ∧ query23.queries[2]? = some (some 0) ∧ (2 : Nat) ≠ 3)
    ∧ ((queryAt query3 0 = none ∧ queryAt query3 1 = none ∧ queryAt query3 2 = none ∧ queryAt query3 4 = none)
      ∧ query3.notices = [] ∧ query3.halfArmed = true) := by decide +kernel

/-- `base` after LINK, its recovery not yet done. -/
def recovering : State := { starting with lastCause := .link }

theorem witness_ResetRequestLeadsToLinkReset : Acts (.reset (asks ())) base ∧ base.linkResetDue = false
    ∧ ({ busy with linkResetDue := true } : State).linkResetDue = true
    ∧ (∃ x, ({ busy with linkResetDue := true } : State).units[0]? = some x ∧ x.op ≠ none ∧ x.state ≠ .absent)
    ∧ (recovering.linkResetDue = false ∧ recovering.part = .starting ∧ recovering.lastCause = .link ∧ recovering.notices = [] ∧ recovering.halfArmed = true)
    ∧ base.part = .ready ∧ starting.lastCause ≠ .link ∧ starting.linkResetDue = false :=
  ⟨by decide +kernel, by decide, by decide, ⟨_, rfl, by decide, by decide⟩, by decide, by decide, by decide, by decide⟩

end Sys2Proof.Tests
end

section
/-! The photo requests that stand alone: FILE-PHOTO and REMOVE-PHOTO. -/

namespace Sys2Proof.Machine.PhotoLaws
open Sys2Proof Sys2Proof.Machine

/-- A new photo and a refill alike pass when nothing that is neither INCOMPLETE nor FAILED has the number (R31, R32). -/
theorem refillable_iff (o : Option Photo) :
    (o.all fun p => decide (p.state = .incomplete ∨ p.state = .failed)) = true
      ↔ ¬ (o.any fun p => decide (p.state ≠ .incomplete ∧ p.state ≠ .failed)) = true := by
  cases o with
  | none => simp
  | some p => simp; tauto

/-- The slot bound for a photo whose record is filed, the record new or refilled (R31, R32, R44). -/
theorem bindSlot_filePhotoRecord (k : Nat) (r : FilePhotoReq) (s : State) :
    bindSlot k (.photo r.photo) .photo r.size r.check (filePhotoRecord r s) = { s with
      photos := (filePhotoRecord r s).photos
      free := s.free - slabsFor r.size
      freeCount := s.freeCount + 1
      slots := s.slots.set k (some ⟨.photo r.photo, .photo, r.size, r.check, [], false, crc32Start,
        grantedSlabs (slabsFor r.size) s, s.timeBase⟩) } := by
  unfold filePhotoRecord
  cases findPhoto s r.photo <;> rfl

/-- The photos once the record is filed. -/
theorem filePhotoRecord_photos (r : FilePhotoReq) (s : State) :
    (filePhotoRecord r s).photos = match findPhoto s r.photo with
      | none => s.photos ++ [newPhoto r]
      | some _ => s.photos.map fun p => if p.number = r.photo then p.refill r else p := by
  unfold filePhotoRecord
  cases findPhoto s r.photo <;> rfl

/-- Settles O23: the checks one after another, then the slot bound to the filed record. -/
theorem filePhotoBindsASlot : Obligations.FilePhotoBindsASlot := by
  intro tag r s h
  refine ends_request h ?_
  unfold filePhoto
  refine ends_ensure (by simp) fun _ => ?_
  refine ends_ensure (by simp [rightsInRange]; omega) fun _ => ?_
  refine ends_ensure (refillable_iff (findPhoto s r.photo)) fun _ => ?_
  refine slotTests_ends fun k => ?_
  rw [bindSlot_filePhotoRecord, filePhotoRecord_photos]
  rfl

/-- What the removal gives back leaves the catalogue's photos alone. -/
@[simp] theorem giveBackPhoto_photos (p : Photo) (s : State) : (giveBackPhoto p s).photos = s.photos := by
  unfold giveBackPhoto
  cases p.state <;> cases p.location <;> simp

/-- Settles O25: the four checks one after another, then what a removed record gives back, by its state. -/
theorem removePhotoDeletesTheRecord : Obligations.RemovePhotoDeletesTheRecord := by
  intro tag n s h
  refine ends_request h ?_
  unfold removePhoto
  have hfind : findPhoto (taken s) n = findPhoto s n := rfl
  have hhold : photoHold (taken s) n = photoHold s n := rfl
  cases hp : findPhoto s n with
  | none => exact ends_missing (hfind.trans hp)
  | some p =>
    refine ends_found (hfind.trans hp) ?_
    refine ends_ensure (by simp) fun _ => ?_
    refine ends_ensure_or (by simp) (by simp [hhold]) fun _ => ?_
    simp only [done_is_ok, answer_reply, giveBackPhoto_photos, taken_keeps]
    unfold giveBackPhoto
    cases p.state with
    | stored => cases p.location <;> rfl
    | _ => rfl

end Sys2Proof.Machine.PhotoLaws
end

section
/-! PLACE-ORDER: how the items are examined, and what an accepted order leaves (R41, R147 to R151, R169, R170, R175). -/

namespace Sys2Proof.Machine.PlaceOrderLaws
open Sys2Proof Sys2Proof.Machine

/-! ### The items in list order (R147, step 5) -/

/-- Taking a request changes nothing that the examination of an item reads. -/
theorem examineItem_taken (s : State) (earlier : List (Subject × Bound)) (i : ItemReq) :
    examineItem (taken s) earlier i = examineItem s earlier i := rfl

theorem examineItems_taken (s : State) (l : List ItemRec) (reqs : List ItemReq) :
    examineItems (taken s) l reqs = examineItems s l reqs := by
  induction reqs generalizing l with
  | nil => rfl
  | cons i rest ih => simp only [examineItems, examineItem_taken, ih]

/-- What an item is examined with, of the items before it. -/
abbrev bindings (l : List ItemRec) : List (Subject × Bound) := l.map fun x => (x.subject, x.bound)

theorem examineItems_cons_ok {s : State} {l items : List ItemRec} {i : ItemReq} {rest : List ItemReq} :
    examineItems s l (i :: rest) = .ok items
      ↔ ∃ x, examineItem s (bindings l) i = .ok x ∧ examineItems s (l ++ [x]) rest = .ok items := by
  rw [examineItems]
  cases examineItem s (bindings l) i <;> simp

/-- Items pass after those of `l` when each passes with all the items before it. -/
theorem examineItems_ok_iff (s : State) (l items : List ItemRec) (reqs : List ItemReq) :
    examineItems s l reqs = .ok items ↔ ∃ new, items = l ++ new ∧ new.length = reqs.length
      ∧ ∀ k i x, reqs[k]? = some i → new[k]? = some x → examineItem s (bindings (l ++ new.take k)) i = .ok x := by
  induction reqs generalizing l with
  | nil =>
    simp only [examineItems, Except.ok.injEq]
    constructor
    · rintro rfl; exact ⟨[], by simp⟩
    · rintro ⟨new, rfl, hn, -⟩; simp [List.length_eq_zero_iff.mp hn]
  | cons i rest ih =>
    simp only [examineItems_cons_ok, ih]
    constructor
    · rintro ⟨x, hx, new, rfl, hn, hk⟩
      refine ⟨x :: new, by simp, by simp [hn], fun k j y hj hy => ?_⟩
      cases k with
      | zero => simp_all
      | succ k => simpa using hk k j y (by simpa using hj) (by simpa using hy)
    · rintro ⟨new, rfl, hn, hk⟩
      cases new with
      | nil => simp at hn
      | cons x new =>
        refine ⟨x, by simpa using hk 0 i x rfl rfl, new, by simp, by simpa using hn, fun k j y hj hy => ?_⟩
        simpa using hk (k + 1) j y (by simpa using hj) (by simpa using hy)

/-- Once the first items have passed, the rest decide. -/
theorem examineItems_append {s : State} {l items : List ItemRec} {reqs rest : List ItemReq}
    (h : examineItems s l reqs = .ok items) : examineItems s l (reqs ++ rest) = examineItems s items rest := by
  induction reqs generalizing l with
  | nil => simp_all [examineItems]
  | cons i reqs ih =>
    obtain ⟨x, hx, hrest⟩ := examineItems_cons_ok.mp h
    rw [List.cons_append, examineItems, hx]
    exact ih hrest

/-- The first item that fails gives its number and reason. -/
theorem examineItems_first_failure {s : State} {reqs : List ItemReq} {k : Nat} {i : ItemReq} {items : List ItemRec}
    {e : Reason} (hi : reqs[k]? = some i) (hok : examineItems s [] (reqs.take k) = .ok items)
    (he : examineItem s (bindings items) i = .error e) :
    examineItems s [] reqs = .error (.refused e [Wire.u8 (k + 1)]) := by
  obtain ⟨hk, rfl⟩ := List.getElem?_eq_some_iff.mp hi
  have hlen : items.length = k := by
    obtain ⟨new, rfl, hn, -⟩ := (examineItems_ok_iff s [] items _).mp hok
    simpa [Nat.min_eq_left hk.le] using hn
  conv_lhs => rw [← List.take_append_drop k reqs, List.drop_eq_getElem_cons hk]
  rw [examineItems_append hok, examineItems, he]
  simp [hlen]

/-! ### One item -/

theorem productOf_code (p : Product) : productOf p.code = some p := by cases p <;> rfl

theorem productOf_none {n : Nat} (h : n = 0 ∨ 4 < n) : productOf n = none := by
  unfold productOf; split <;> simp_all

theorem examineItem_noProduct {s : State} {earlier : List (Subject × Bound)} {i : ItemReq}
    (h : i.product = 0 ∨ 4 < i.product) : examineItem s earlier i = .error .malformed := by
  unfold examineItem
  rw [productOf_none h]; rfl

theorem examineItem_neither {s : State} {earlier : List (Subject × Bound)} {i : ItemReq} (h : i.subject = .neither) :
    examineItem s earlier i = .error .malformed := by
  unfold examineItem
  cases productOf i.product <;> simp [h]

theorem examineItem_photo {s : State} {earlier : List (Subject × Bound)} {i : ItemReq} {p : Product} {n : Nat}
    (hp : i.product = p.code) (h : i.subject = .photo n) : examineItem s earlier i = photoItem s p n i.choice := by
  unfold examineItem
  rw [hp, productOf_code, h]; rfl

theorem examineItem_plate {s : State} {earlier : List (Subject × Bound)} {i : ItemReq} {p : Product} {r : PlateReq}
    (hp : i.product = p.code) (h : i.subject = .plate r) :
    examineItem s earlier i = plateItem s earlier p r i.choice i.profile := by
  unfold examineItem
  rw [hp, productOf_code, h]; rfl

/-! ### The checks of an item -/

/-- A check at the front of an item's list, as a statement writes it: where `c` holds the item fails, and else the rest
decides. -/
theorem need_bind {α : Type} {b : Bool} {r : Reason} {f : Unit → Except Reason α} {c : Prop} [Decidable c]
    {x : Except Reason α} (hb : b = true ↔ ¬ c) (hx : ¬ c → f () = x) :
    (need b r >>= f) = if c then .error r else x := by
  by_cases h : c
  · have : b = false := by simpa using mt hb.mp (not_not_intro h)
    rw [if_pos h, this]; rfl
  · rw [if_neg h, hb.mpr h]; exact hx h

theorem isPhoto_iff (p : Product) : p.isPhoto = true ↔ ¬ (p = .pagePrint ∨ p = .pageFile) := by
  cases p <;> simp [Product.isPhoto]

theorem not_isPhoto_iff (p : Product) : (!p.isPhoto) = true ↔ ¬ (p = .photoPrint ∨ p = .photoFile) := by
  cases p <;> simp [Product.isPhoto]

theorem not_embargoed_iff (p : Photo) (day : Nat) :
    (!p.embargoed day) = true ↔ ¬ ∃ e, p.embargo = some e ∧ day < e := by
  rw [Bool.not_eq_true', ← Bool.not_eq_true, Photo.embargoed]
  simp [Option.any_eq_true]

/-- R41's checks in their order; what passes is bound to the original. -/
theorem photoItem_eq (s : State) (p : Product) (n choice : Nat) :
    photoItem s p n choice =
      if p = .pagePrint ∨ p = .pageFile then .error .malformed
      else
        match findPhoto s n with
        | none => .error .noSuch
        | some x =>
          if choice ≠ 1 then .error .wrongSource
          else if x.barred then .error .barred
          else if x.state ≠ .stored then .error .wrongState
          else if ∃ e, x.embargo = some e ∧ today s + 30 < e then .error .embargoed
          else .ok (newItem (s.tariff.line p) (ageYears (today s) x.photoDay) p (.photo n) .none .original false
            x.fee x.holder x.share) := by
  unfold photoItem
  refine need_bind (isPhoto_iff p) fun _ => ?_
  cases findPhoto s n with
  | none => rfl
  | some x =>
    refine need_bind (by simp) fun _ => need_bind (by simp) fun _ => need_bind (by simp) fun _ => ?_
    exact need_bind (not_embargoed_iff x _) fun _ => rfl

/-- The choice that a number stands for once it has been examined (R148, step 2). -/
abbrev choiceNamed (choice profile : Nat) : Choice :=
  if choice = 1 then .none else if choice = 2 then .auto else .profile profile

/-- R148's step 2 at the front of an item's list. -/
theorem choiceOf_bind {α : Type} {choice profile : Nat} {f : Choice → Except Reason α} {x : Except Reason α}
    (hx : choice = 1 ∨ choice = 2 ∨ choice = 3 → f (choiceNamed choice profile) = x) :
    (choiceOf choice profile >>= f) = if choice = 0 ∨ 3 < choice then .error .malformed
      else if choice = 3 ∧ 7 < profile then .error .outOfRange else x := by
  match choice with
  | 0 => rfl
  | 1 => exact hx (by simp)
  | 2 => exact hx (by simp)
  | 3 =>
    by_cases h : profile ≤ 7
    · simpa [choiceOf, choiceNamed, h, Nat.not_lt.mpr h] using hx (by simp)
    · simp [choiceOf, h, Nat.not_le.mp h]
  | n + 4 => rw [if_pos (.inr (by omega))]; rfl

/-- Only an item asked for as it lies may be of a PRESS edition (R148, step 4). -/
theorem sourceCheck_iff (e : Edition) (choice profile : Nat) :
    (decide (e.source = .scan) || decide (choiceNamed choice profile = .none)) = true
      ↔ ¬ (e.source = .press ∧ choice ≠ 1) := by
  by_cases h1 : choice = 1
  · simp [h1]
  · by_cases h2 : choice = 2 <;> cases e.source <;> simp [h1, h2]

/-- A job of another profile on the plate, or a binding against this one (R149). -/
theorem not_conflicts_iff (s : State) (r : PlateRef) (q : Nat) (earlier : List (Subject × Bound)) :
    (!conflicts s r q earlier) = true ↔
      ¬ ((∃ j, jobOn s r = some j ∧ j.profile ≠ q) ∨ boundAgainst s r q earlier = true) := by
  rw [Bool.not_eq_true', ← Bool.not_eq_true, conflicts]
  simp [Option.any_eq_true]

/-- R148's and R149's checks in their order; what passes is bound as R150 gives. -/
theorem plateItem_eq (s : State) (earlier : List (Subject × Bound)) (p : Product) (r : PlateReq)
    (choice profile : Nat) :
    plateItem s earlier p r choice profile =
      if p = .photoPrint ∨ p = .photoFile then .error .malformed
      else if choice = 0 ∨ 3 < choice then .error .malformed
      else if choice = 3 ∧ 7 < profile then .error .outOfRange
      else
        match resolve s r with
        | .error _ => .error .noSuch
        | .ok x =>
          if x.edition.source = .press ∧ choice ≠ 1 then .error .wrongSource
          else if x.plate.state = .suppressed then .error .suppressed
          else if x.plate.state ≠ .stored then .error .wrongState
          else
            let item (b : Bound) (made : Bool) := newItem (s.tariff.line p) (ageYears (today s) x.edition.day) p
              (.plate x.ref) (choiceNamed choice profile) b made 0 0 0
            if choice = 1 ∨ (choice = 2 ∧ x.edition.grade < 2) then .ok (item .original false)
            else
              let q := if choice = 2 then x.edition.profile else profile
              if (∃ j, jobOn s x.ref = some j ∧ j.profile ≠ q) ∨ boundAgainst s x.ref q earlier = true then
                .error .plateBusy
              else .ok (item (.restored q) (decide (x.plate.restored.map (·.profile) ≠ some q))) := by
  unfold plateItem
  refine need_bind (not_isPhoto_iff p) fun _ => choiceOf_bind fun hc => ?_
  cases resolve s r with
  | error _ => rfl
  | ok x =>
    refine need_bind (sourceCheck_iff x.edition choice profile) fun _ => ?_
    refine need_bind (by simp) fun _ => need_bind (by simp) fun _ => ?_
    have restored (q : Nat) (item : ItemRec) :=
      need_bind (f := fun _ => pure item) (r := .plateBusy) (not_conflicts_iff s x.ref q earlier) fun _ => rfl
    rcases hc with rfl | rfl | rfl
    · rfl
    · by_cases hg : x.edition.grade < 2
      · simp [chosenProfile, choiceNamed, hg, Nat.not_le.mpr hg]
      · simp only [chosenProfile, Nat.not_lt.mp hg, hg, OfNat.ofNat_ne_one, if_true, if_false, and_false, or_false]
        exact restored _ _
    · simp only [chosenProfile]; exact restored _ _

/-! ### The binding test (R116, step 8) -/

theorem against_iff (q : Nat) (b : Bound) : b.against q = true ↔ ∃ k, b = .restored k ∧ k ≠ q := by
  cases b <;> simp [Bound.against]

theorem boundAgainst_iff (s : State) (r : PlateRef) (q : Nat) (earlier : List (Subject × Bound)) :
    boundAgainst s r q earlier = true ↔
      (∃ t ∈ s.tickets, t.subject = .plate r ∧ t.copy = .restored ∧ presentProfile s r ≠ some q)
      ∨ (∃ i ∈ openItems s, i.live = true ∧ i.subject = .plate r ∧ ∃ k, i.bound = .restored k ∧ k ≠ q)
      ∨ ∃ x ∈ earlier, x.1 = .plate r ∧ ∃ k, x.2 = .restored k ∧ k ≠ q := by
  simp only [boundAgainst, Bool.or_eq_true, List.any_eq_true, Bool.and_eq_true, decide_eq_true_eq, against_iff,
    and_assoc, or_assoc]

/-! ### The order -/

/-- An order that the account's available funds do not cover is refused FUNDS; else it is created (R151, R175). -/
theorem placeOrder_passed (tag : Nat) (s : State) (a : Account) (items : List ItemRec) :
    (Host.Outcome.next (answer tag (taken s)
        (if a.available < (reservationOf items a.tier : Int) then
          refuse .funds [.u32 (reservationOf items a.tier), .s32 a.available]
        else done (acceptOrder a items (taken s)).2
          ([.u8 (acceptOrder a items (taken s)).1, .u32 (reservationOf items a.tier)]
            ++ listOf ItemRec.accepted items))) : Answered) =
      if a.available < (reservationOf items a.tier : Int) then
        .next (replied tag (.refused .funds [.u32 (reservationOf items a.tier), .s32 a.available]) (taken s))
      else endsDone tag ([.u8 (acceptOrder a items (taken s)).1, .u32 (reservationOf items a.tier)]
        ++ listOf ItemRec.accepted items) (acceptOrder a items (taken s)).2 := by
  split <;> rfl

/-- Settles O47: the first check that fails refuses the request; the items' part of it is said of `examineItems`,
`photoItem`, `plateItem` and `boundAgainst` above. -/
theorem placeOrderReservesAndStarts : Obligations.PlaceOrderReservesAndStarts := by
  refine ⟨fun tag r s h => ends_request h ?_, fun s reqs => ⟨fun items => ?_, fun k i items e hi hok he => ?_⟩,
    fun s earlier i => ⟨?_, fun p hp => ⟨fun n hn => ?_, fun x hx => ?_⟩⟩, photoItem_eq, plateItem_eq, boundAgainst_iff⟩
  case refine_1 =>
    unfold placeOrder
    refine ends_ensure (by simp [Option.isSome_iff_ne_none]) fun _ => ?_
    refine ends_ensure (by simp) fun _ => ends_ensure (by simp) fun _ => ?_
    have hfind : findAccount (taken s) r.account = findAccount s r.account := rfl
    cases ha : findAccount s r.account with
    | none => exact ends_missing (hfind.trans ha)
    | some a =>
      refine ends_found (hfind.trans ha) ?_
      refine ends_ensure (by simp) fun _ => ends_ensure (by simp [Config.orderRoom]) fun _ => ?_
      rw [examineItems_taken]
      cases examineItems s [] r.items with
      | error b => rfl
      | ok items =>
        have hn : a.number = r.account := by simpa using List.find?_some ha
        rw [← hn]
        exact placeOrder_passed tag s a items
  case refine_2 => simpa using examineItems_ok_iff s [] items reqs
  case refine_3 => exact examineItems_first_failure hi hok he
  case refine_4 =>
    rintro (h | h | h)
    · exact examineItem_noProduct (.inl h)
    · exact examineItem_noProduct (.inr h)
    · exact examineItem_neither h
  case refine_5 => exact examineItem_photo hp hn
  case refine_6 => exact examineItem_plate hp hx

end Sys2Proof.Machine.PlaceOrderLaws
end

section
/-! What a step's work knows of the items of the book: what is found after each change of an order, and the two views of
an item that the rest is said with, its state and, while it is live, its subject. -/

namespace Sys2Proof.Machine.CascadeLaws
open Sys2Proof Sys2Proof.Machine

/-! ### Finding orders and items -/

/-- A change of one order that keeps its number changes what is found under that number alone. -/
theorem findOrder_modifyOrder (o : Nat) {f : OrderRec → OrderRec} (hf : ∀ x, (f x).number = x.number) (s : State)
    (n : Nat) : findOrder (modifyOrder o f s) n = (findOrder s n).map fun x => if x.number = o then f x else x := by
  unfold findOrder
  rw [modifyOrder_writes, List.find?_map]
  congr 2
  funext x
  by_cases h : x.number = o <;> simp [h, hf]

/-- A change of an order that leaves its items alone. -/
theorem findItem_modifyOrder (o : Nat) {f : OrderRec → OrderRec}
    (hf : ∀ x, (f x).number = x.number ∧ (f x).items = x.items) (s : State) (n i : Nat) :
    findItem (modifyOrder o f s) n i = findItem s n i := by
  unfold findItem
  rw [findOrder_modifyOrder o fun x => (hf x).1]
  cases findOrder s n with
  | none => rfl
  | some x => by_cases h : x.number = o <;> simp [h, OrderRec.item, hf]

/-- A change of an item that exists changes that item alone. -/
theorem findItem_modifyItem {o i : Nat} (hi : i ≠ 0) (f : ItemRec → ItemRec) (s : State) (n k : Nat) :
    findItem (modifyItem o i f s) n k = if (n, k) = (o, i) then (findItem s n k).map f else findItem s n k := by
  unfold findItem modifyItem
  rw [findOrder_modifyOrder o (f := fun x => { x with items := x.items.modify (i - 1) f }) fun _ => rfl]
  cases h : findOrder s n with
  | none => simp
  | some x =>
    have hn : x.number = n := by simpa using List.find?_some h
    by_cases hk : k = 0
    · subst hk; simp [OrderRec.item, hi.symm]
    by_cases ho : n = o
    · by_cases hki : k = i
      · simp [OrderRec.item, hn, ho, hki, hi]
      · have : ¬ i - 1 = k - 1 := by omega
        simp [OrderRec.item, hn, ho, hki, hk, this]
    · simp [hn, ho]

/-- Items are numbered from 1. -/
theorem ne_zero_of_findItem {s : State} {o i : Nat} {it : ItemRec} (h : findItem s o i = some it) : i ≠ 0 := by
  rintro rfl
  simp [findItem, OrderRec.item] at h

/-- A settled order is gone, and no other. -/
theorem findOrder_settleOrder (x : OrderRec) (s : State) (n : Nat) :
    findOrder (settleOrder x s) n = if n = x.number then none else findOrder s n := by
  have horders : (settleOrder x s).orders = s.orders.filter fun y => decide (y.number ≠ x.number) := by
    simp [settleOrder]
  unfold findOrder
  rw [horders, List.find?_filter]
  by_cases h : n = x.number
  · simp [h]
  · rw [if_neg h]
    congr 1; funext y; simp; omega

/-! ### What is known of an item -/

/-- The state of the item named. -/
def itemState (s : State) (x : Nat × Nat) : Option ItemState := (findItem s x.1 x.2).map (·.state)

/-- The subject of the item named, while the item is live. -/
def liveSubject (s : State) (x : Nat × Nat) : Option Subject :=
  ((findItem s x.1 x.2).filter ItemRec.live).map (·.subject)

theorem findItem_congr {s t : State} (h : t.orders = s.orders) : findItem t = findItem s := by
  funext o i; unfold findItem findOrder; rw [h]

theorem itemState_congr {s t : State} (h : findItem t = findItem s) : itemState t = itemState s := by
  funext x; unfold itemState; rw [h]

theorem liveSubject_congr {s t : State} (h : findItem t = findItem s) : liveSubject t = liveSubject s := by
  funext x; unfold liveSubject; rw [h]

theorem itemState_modifyItem {o i : Nat} (hi : i ≠ 0) (f : ItemRec → ItemRec) (s : State) {x : Nat × Nat}
    (hx : x ≠ (o, i)) : itemState (modifyItem o i f s) x = itemState s x := by
  unfold itemState
  rw [findItem_modifyItem hi, if_neg hx]

/-- A change of an item that leaves it live, or not live, and its subject the same. -/
theorem liveSubject_modifyItem {o i : Nat} {it : ItemRec} {f : ItemRec → ItemRec} {s : State}
    (h : findItem s o i = some it) (hf : (f it).live = it.live ∧ (f it).subject = it.subject) :
    liveSubject (modifyItem o i f s) = liveSubject s := by
  funext x
  unfold liveSubject
  rw [findItem_modifyItem (ne_zero_of_findItem h)]
  split
  · next hx =>
    obtain ⟨rfl, rfl⟩ := Prod.mk.inj hx
    rw [h]
    by_cases hl : it.live = true <;> simp [Option.filter, hf, hl]
  · rfl

/-- An item that is done is live no more. -/
theorem liveSubject_modifyItem_dead {o i : Nat} {f : ItemRec → ItemRec} {s : State} (hi : i ≠ 0)
    (hf : ∀ it, (f it).live = false) :
    liveSubject (modifyItem o i f s) = Function.update (liveSubject s) (o, i) none := by
  funext x
  unfold liveSubject
  rw [findItem_modifyItem hi]
  by_cases hx : x = (o, i)
  · subst hx
    cases findItem s o i <;> simp [Option.filter, hf]
  · rw [if_neg hx, Function.update_of_ne hx]

/-- Of an order settled no item was live. -/
theorem findItem_settleIfDone_of_live {s : State} {o n i : Nat} {it : ItemRec} (h : findItem s n i = some it)
    (hl : it.live = true) : findItem (settleIfDone o s) n i = some it := by
  unfold settleIfDone
  split
  · exact h
  · next x hx =>
    split
    · next hd =>
      unfold findItem at h ⊢
      rw [findOrder_settleOrder]
      split
      · next hn =>
        have hxn : x.number = o := by simpa using List.find?_some hx
        rw [hn, hxn, hx] at h
        have hm : it ∈ x.items := by
          simp only [Option.bind_some, OrderRec.item] at h
          split at h
          · cases h
          · exact List.mem_of_getElem? h
        have := List.all_eq_true.mp hd it hm
        simp [hl] at this
      · exact h
    · exact h

theorem findItem_of_settleIfDone {s : State} {o n i : Nat} {it : ItemRec}
    (h : findItem (settleIfDone o s) n i = some it) : findItem s n i = some it := by
  unfold settleIfDone at h
  split at h
  · exact h
  · split at h
    · unfold findItem at h ⊢
      rw [findOrder_settleOrder] at h
      split at h
      · cases h
      · exact h
    · exact h

theorem liveSubject_settleIfDone (o : Nat) (s : State) : liveSubject (settleIfDone o s) = liveSubject s := by
  funext x
  unfold liveSubject
  congr 1
  apply Option.ext
  intro it
  simp only [Option.filter_eq_some_iff]
  exact ⟨fun ⟨h, hl⟩ => ⟨findItem_of_settleIfDone h, hl⟩, fun ⟨h, hl⟩ => ⟨findItem_settleIfDone_of_live h hl, hl⟩⟩

end Sys2Proof.Machine.CascadeLaws
end

section
/-! The wait lists while a step's work goes on, and what a stage that cancels nothing keeps (R152, R154, R156). -/

namespace Sys2Proof.Machine.CascadeLaws
open Sys2Proof Sys2Proof.Machine

/-! ### The wait lists -/

/-- The item stands in the slab-wait list or in a job's waiting list. -/
def Listed (s : State) (x : Nat × Nat) : Prop := x ∈ s.slabWait ∨ ∃ j ∈ s.jobs, x ∈ j.waiting

/-- An item of the slab-wait list is PENDING and stands there once, and an item of a job's waiting list waits for that
job: the part of `WaitsWf` that keeps the stages of a step from reviving an item that is done. -/
structure ListsAgree (s : State) : Prop where
  nodup : s.slabWait.Nodup
  slabs : ∀ x ∈ s.slabWait, itemState s x = some .pending
  jobs : ∀ j ∈ s.jobs, ∀ x ∈ j.waiting, itemState s x = some (.waitRestore (some j.number))

theorem itemState_of_activeIn {s : State} {x : Nat × Nat} {st : ItemState} (h : activeIn s x st) :
    itemState s x = some st := h.2

theorem listsAgree_of_waitsWf {s : State} (h : WaitsWf s) : ListsAgree s := by
  obtain ⟨-, hnd, -, hs, -, -, -, hj⟩ := h
  exact ⟨hnd, fun x hx => itemState_of_activeIn (hs x hx),
    fun j hjs x hx => itemState_of_activeIn ((hj j hjs).2.2 x hx)⟩

/-- Jobs may have left, and members their waiting lists; nothing came. -/
def JobsShrink (s t : State) : Prop :=
  ∀ j ∈ t.jobs, ∃ k ∈ s.jobs, k.number = j.number ∧ k.stored = j.stored ∧ j.waiting ⊆ k.waiting

theorem JobsShrink.of_subset {s t : State} (h : t.jobs ⊆ s.jobs) : JobsShrink s t :=
  fun j hj => ⟨j, h hj, rfl, rfl, fun _ hx => hx⟩

theorem JobsShrink.of_eq {s t : State} (h : t.jobs = s.jobs) : JobsShrink s t := .of_subset (h ▸ fun _ hj => hj)

theorem JobsShrink.trans {s t u : State} (h : JobsShrink s t) (h' : JobsShrink t u) : JobsShrink s u := by
  intro j hj
  obtain ⟨k, hk, hn, hs, hw⟩ := h' j hj
  obtain ⟨m, hm, hn', hs', hw'⟩ := h k hk
  exact ⟨m, hm, hn'.trans hn, hs'.trans hs, fun x hx => hw' (hw hx)⟩

/-- A change of the jobs with a number that leaves the number and the stored copy as they are and no new member in the
waiting list. -/
theorem JobsShrink.of_map {s t : State} {n : Nat} {f : Job → Job}
    (h : t.jobs = s.jobs.map fun j => if j.number = n then f j else j)
    (hf : ∀ j, (f j).number = j.number ∧ (f j).stored = j.stored ∧ (f j).waiting ⊆ j.waiting) : JobsShrink s t := by
  intro j hj
  obtain ⟨k, hk, rfl⟩ := List.mem_map.mp (h ▸ hj)
  obtain ⟨hn, hs, hw⟩ := hf k
  by_cases h : k.number = n
  · exact ⟨k, hk, by simp [h, hn], by simp [h, hs], by simpa [h] using hw⟩
  · exact ⟨k, hk, by simp [h], by simp [h], by simp [h]⟩

/-- Lists that lose members still agree, the items left in them being as they were. -/
theorem ListsAgree.shrink {s t : State} (h : ListsAgree s) (hs : t.slabWait.Sublist s.slabWait) (hj : JobsShrink s t)
    (hx : ∀ x, Listed s x → Listed t x → itemState t x = itemState s x) : ListsAgree t where
  nodup := h.nodup.sublist hs
  slabs x hm := (hx x (.inl (hs.subset hm)) (.inl hm)).trans (h.slabs x (hs.subset hm))
  jobs j hjt x hm := by
    obtain ⟨k, hk, hn, -, hw⟩ := hj j hjt
    rw [hx x (.inr ⟨k, hk, hw hm⟩) (.inr ⟨j, hjt, hm⟩), h.jobs k hk x (hw hm), hn]

/-- An item of a list is live. -/
theorem ListsAgree.live {s : State} (h : ListsAgree s) {x : Nat × Nat} (hx : Listed s x) {it : ItemRec}
    (hi : findItem s x.1 x.2 = some it) : it.live = true := by
  have hst : itemState s x = some it.state := by rw [itemState, hi]; rfl
  unfold ItemRec.live
  obtain hm | ⟨j, hj, hm⟩ := hx
  · rw [Option.some.inj (hst.symm.trans (h.slabs x hm))]
  · rw [Option.some.inj (hst.symm.trans (h.jobs j hj x hm))]

/-- An item of a list is in the book. -/
theorem ListsAgree.found {s : State} (h : ListsAgree s) {x : Nat × Nat} (hx : Listed s x) :
    ∃ it, findItem s x.1 x.2 = some it := by
  have : (itemState s x).isSome = true := by
    obtain hm | ⟨j, hj, hm⟩ := hx
    · rw [h.slabs x hm]; rfl
    · rw [h.jobs j hj x hm]; rfl
  simpa [itemState, Option.isSome_iff_exists] using this

/-! ### A stage that cancels nothing -/

/-- From s to t no item has been done, none revived, no order has left, and the lists agree. -/
structure GoesOn (s t : State) : Prop where
  live : liveSubject t = liveSubject s
  lists : ListsAgree t
  numbers : t.orders.map (·.number) = s.orders.map (·.number)

theorem GoesOn.trans {s t u : State} (h : GoesOn s t) (h' : GoesOn t u) : GoesOn s u :=
  ⟨h'.live.trans h.live, h'.lists, h'.numbers.trans h.numbers⟩

/-- Nothing in the book changes, and the lists at most lose members. -/
theorem goesOn_shrink {s t : State} (h : ListsAgree s) (ho : t.orders = s.orders)
    (hs : t.slabWait.Sublist s.slabWait) (hj : JobsShrink s t) : GoesOn s t :=
  ⟨liveSubject_congr (findItem_congr ho), h.shrink hs hj fun x _ _ => by rw [itemState_congr (findItem_congr ho)],
    by rw [ho]⟩

theorem numbers_modifyOrder (o : Nat) {f : OrderRec → OrderRec} (hf : ∀ x, (f x).number = x.number) (s : State) :
    (modifyOrder o f s).orders.map (·.number) = s.orders.map (·.number) := by
  simp only [modifyOrder_writes, List.map_map]
  refine List.map_congr_left fun x _ => ?_
  by_cases hx : x.number = o <;> simp [hx, hf]

/-- A change of the book that no list is touched by and that changes no item. -/
theorem goesOn_modifyOrder {s : State} (h : ListsAgree s) (o : Nat) {f : OrderRec → OrderRec}
    (hf : ∀ x, (f x).number = x.number ∧ (f x).items = x.items) : GoesOn s (modifyOrder o f s) := by
  have hi : findItem (modifyOrder o f s) = findItem s := by
    funext n i; exact findItem_modifyOrder o hf s n i
  refine ⟨liveSubject_congr hi, h.shrink (by simp) (.of_eq (by simp)) fun x _ _ => by rw [itemState_congr hi],
    numbers_modifyOrder o (fun x => (hf x).1) s⟩

theorem numbers_modifyItem (o i : Nat) (f : ItemRec → ItemRec) (s : State) :
    (modifyItem o i f s).orders.map (·.number) = s.orders.map (·.number) := by
  refine numbers_modifyOrder o ?_ s
  exact fun _ => rfl

/-- A live item of no list goes on to another live state. -/
theorem goesOn_modifyItem {s : State} (h : ListsAgree s) {o i : Nat} {it : ItemRec} {f : ItemRec → ItemRec}
    (hi : findItem s o i = some it) (hf : (f it).live = it.live ∧ (f it).subject = it.subject)
    (hx : ¬ Listed s (o, i)) : GoesOn s (modifyItem o i f s) := by
  refine ⟨liveSubject_modifyItem hi hf, h.shrink (by simp) (.of_eq (by simp)) fun x hl _ => ?_,
    numbers_modifyItem o i f s⟩
  exact itemState_modifyItem (ne_zero_of_findItem hi) f s fun he => hx (he ▸ hl)

theorem not_listed_modifyItem {s : State} {o i : Nat} {f : ItemRec → ItemRec} {x : Nat × Nat} (hx : ¬ Listed s x) :
    ¬ Listed (modifyItem o i f s) x := by
  simpa [Listed] using hx

/-- Items that wait for a job and stand in no list go on to wait for none. -/
theorem goesOn_detachItems {s : State} (h : ListsAgree s) {l : List (Nat × Nat)}
    (hst : ∀ x ∈ l, ∃ n, itemState s x = some (.waitRestore n)) (hl : ∀ x ∈ l, ¬ Listed s x) :
    GoesOn s (detachItems l s) := by
  induction l generalizing s with
  | nil => exact ⟨rfl, h, rfl⟩
  | cons x l ih =>
    obtain ⟨n, hn⟩ := hst x (by simp)
    obtain ⟨it, hi, hit⟩ : ∃ it, findItem s x.1 x.2 = some it ∧ it.state = .waitRestore n := by
      simpa [itemState] using hn
    have hg : GoesOn s (setItemState x.1 x.2 (.waitRestore none) s) :=
      goesOn_modifyItem h hi (by simp [ItemRec.live, hit]) (hl x (by simp))
    refine hg.trans (ih hg.lists (fun y hy => ?_) fun y hy => not_listed_modifyItem (hl y (by simp [hy])))
    by_cases hyx : y = x
    · refine ⟨none, ?_⟩
      rw [hyx, itemState, setItemState, findItem_modifyItem (ne_zero_of_findItem hi), if_pos rfl, hi]
      rfl
    · rw [setItemState, itemState_modifyItem (ne_zero_of_findItem hi) _ _ (by simpa using hyx)]
      exact hst y (by simp [hy])

theorem endJob_jobs (j : Job) (s : State) :
    (endJob j s).jobs = s.jobs.filter fun x => decide (x.number ≠ j.number) := by
  simp [endJob]

theorem goesOn_endJob {s : State} (h : ListsAgree s) (j : Job) : GoesOn s (endJob j s) :=
  goesOn_shrink h (by simp) (by simp) (.of_subset (by rw [endJob_jobs]; exact List.filter_subset_self _))

/-- A job that ends leaves its items in no list. -/
theorem not_listed_endJob {s : State} (h : ListsAgree s) {j : Job} (hj : j ∈ s.jobs) {x : Nat × Nat}
    (hx : x ∈ j.waiting) : ¬ Listed (endJob j s) x := by
  have hst := h.jobs j hj x hx
  rintro (hm | ⟨k, hk, hm⟩)
  · rw [h.slabs x (by simpa using hm)] at hst; cases hst
  · obtain ⟨hk, hn⟩ := List.mem_filter.mp (endJob_jobs j s ▸ hk)
    rw [h.jobs k hk x hm] at hst
    simp_all

/-- A job ends and its items go on to wait for none. -/
theorem goesOn_endJob_detach {s : State} (h : ListsAgree s) {j : Job} (hj : j ∈ s.jobs) :
    GoesOn s (detachItems j.waiting (endJob j s)) := by
  have hg := goesOn_endJob h j
  refine hg.trans (goesOn_detachItems hg.lists (fun x hx => ⟨some j.number, ?_⟩) fun x hx => not_listed_endJob h hj hx)
  rw [itemState_congr (findItem_congr (s := s) (by simp))]
  exact h.jobs j hj x hx

/-! ### What a task that is wanted finds -/

theorem readyToWork_found {s : State} {o i : Nat} (h : readyToWork s o i = true) :
    ∃ it, findItem s o i = some it
      ∧ (it.state = .pending ∧ (o, i) ∉ s.slabWait ∨ it.state = .waitRestore none) := by
  obtain ⟨it, hi, hst⟩ := (Option.any_eq_true _ _).mp (Bool.and_eq_true _ _ ▸ h).2
  refine ⟨it, hi, ?_⟩
  split at hst <;> simp_all

/-- An item whose next stage is due is live and stands in no list. -/
theorem readyToWork_free {s : State} (h : ListsAgree s) {o i : Nat} (hr : readyToWork s o i = true) :
    ∃ it, findItem s o i = some it ∧ it.live = true ∧ ¬ Listed s (o, i) := by
  obtain ⟨it, hi, hst⟩ := readyToWork_found hr
  have hv : itemState s (o, i) = some it.state := by rw [itemState, hi]; rfl
  refine ⟨it, hi, ?_, ?_⟩
  · rcases hst with ⟨hp, -⟩ | hp <;> simp [ItemRec.live, hp]
  · rintro (hm | ⟨j, hj, hm⟩)
    · have := hv.symm.trans (h.slabs _ hm)
      simp_all
    · have := hv.symm.trans (h.jobs j hj _ hm)
      simp_all

end Sys2Proof.Machine.CascadeLaws
end

section
/-! The stages of items and jobs one by one (R153 to R159, R119 to R126): none of them cancels an item. -/

namespace Sys2Proof.Machine.CascadeLaws
open Sys2Proof Sys2Proof.Machine

/-! ### The stages one by one -/

theorem findItem_of_findOrder {s : State} {o i : Nat} {x : OrderRec} (h : findOrder s o = some x) :
    findItem s o i = x.item i := by simp [findItem, h]

theorem mem_of_findJob {s : State} {n : Nat} {j : Job} (h : findJob s n = some j) : j ∈ s.jobs :=
  List.mem_of_find?_eq_some h

theorem passEmbargo_keeps (it : ItemRec) :
    (passEmbargo it).live = it.live ∧ (passEmbargo it).subject = it.subject := by
  unfold passEmbargo; split <;> exact ⟨rfl, rfl⟩

/-- The first item of a turn list passes its embargo test, or goes to wait for its photo's day (R153). -/
theorem goesOn_activateOrder {s : State} (h : ListsAgree s) {o : Nat} (hw : wanted s (.activate o) = true) :
    GoesOn s (activateOrder o s).1 := by
  obtain ⟨x, hx, hw⟩ := (Option.any_eq_true _ _).mp hw
  obtain ⟨i, hi, hw⟩ := (Option.any_eq_true _ _).mp hw
  obtain ⟨it, hit, hl, hfree⟩ := readyToWork_free h (Bool.and_eq_true _ _ ▸ hw).1
  have hxi : x.item i = some it := (findItem_of_findOrder hx).symm.trans hit
  obtain ⟨rest, hturn⟩ : ∃ rest, x.turn = i :: rest := List.head?_eq_some_iff.mp hi
  simp only [activateOrder, hx, hturn, hxi]
  split
  · have hg : GoesOn s (setItemState o i .waitEmbargo s) :=
      goesOn_modifyItem h hit (by simpa [ItemRec.live] using hl) hfree
    exact hg.trans (goesOn_modifyOrder hg.lists o fun _ => ⟨rfl, rfl⟩)
  · exact goesOn_modifyItem h hit (passEmbargo_keeps it) hfree

/-- An item that waits for a job joins that job's waiting list. -/
theorem goesOn_joinJob {s t : State} (h : ListsAgree s) {x : Nat × Nat} {n : Nat}
    (hx : itemState s x = some (.waitRestore (some n))) (ho : t.orders = s.orders) (hs : t.slabWait = s.slabWait)
    (hj : ∀ j ∈ t.jobs, ∀ y ∈ j.waiting,
      (∃ k ∈ s.jobs, k.number = j.number ∧ y ∈ k.waiting) ∨ y = x ∧ j.number = n) : GoesOn s t := by
  have hv : itemState t = itemState s := itemState_congr (findItem_congr ho)
  refine ⟨liveSubject_congr (findItem_congr ho), ⟨hs ▸ h.nodup, fun y hy => ?_, fun j hjt y hy => ?_⟩, by rw [ho]⟩
  · rw [hv]; exact h.slabs y (hs ▸ hy)
  · rw [hv]
    obtain ⟨k, hk, hn, hm⟩ | ⟨rfl, rfl⟩ := hj j hjt y hy
    · rw [← hn]; exact h.jobs k hk y hm
    · exact hx

theorem itemState_modifyItem_self {s : State} {o i : Nat} {it : ItemRec} (hi : findItem s o i = some it)
    (f : ItemRec → ItemRec) : itemState (modifyItem o i f s) (o, i) = some (f it).state := by
  rw [itemState, findItem_modifyItem (ne_zero_of_findItem hi), if_pos rfl, hi]; rfl

/-- A live item of no list asks for a restored copy: it waits for a job, or in the restore-wait list (R118, R154). -/
theorem goesOn_askRestore {s : State} (h : ListsAgree s) {o i : Nat} {it : ItemRec} (hi : findItem s o i = some it)
    (hl : it.live = true) (hfree : ¬ Listed s (o, i)) (r : PlateRef) (p : Nat) : GoesOn s (askRestore o i r p s).1 := by
  have waits : GoesOn s (waitForJob o i s) := by
    have hg : GoesOn s (setItemState o i (.waitRestore none) s) :=
      goesOn_modifyItem h hi (by simpa [ItemRec.live] using hl) hfree
    exact hg.trans (goesOn_shrink hg.lists rfl (.refl _) (.of_eq rfl))
  unfold askRestore
  split
  · next j hj =>
    split
    · have hg : GoesOn s (setItemState o i (.waitRestore (some j.number)) s) :=
        goesOn_modifyItem h hi (by simpa [ItemRec.live] using hl) hfree
      refine hg.trans (goesOn_joinJob hg.lists (itemState_modifyItem_self hi _) rfl rfl fun m hm y hy => ?_)
      obtain ⟨k, hk, rfl⟩ := List.mem_map.mp hm
      by_cases hn : k.number = j.number
      · rw [if_pos hn] at hy ⊢
        obtain hy | hy := List.mem_append.mp hy
        · exact .inl ⟨k, hk, rfl, hy⟩
        · exact .inr ⟨by simpa using hy, hn⟩
      · rw [if_neg hn] at hy ⊢
        exact .inl ⟨k, hk, rfl, hy⟩
    · exact waits
  · split
    · have hg : GoesOn s (modifyItem o i (fun x => { x with
          state := .waitRestore (some (freeNumber s.nextJob (s.jobs.map (·.number)))), causedRepair := true }) s) :=
        goesOn_modifyItem h hi (by simpa [ItemRec.live] using hl) hfree
      refine hg.trans (goesOn_joinJob hg.lists (itemState_modifyItem_self hi _) rfl rfl fun m hm y hy => ?_)
      obtain hm | hm := List.mem_append.mp hm
      · exact .inl ⟨m, hm, rfl, hy⟩
      · obtain rfl := List.mem_singleton.mp hm
        exact .inr ⟨List.mem_singleton.mp hy, rfl⟩
    · exact waits

theorem goesOn_workActive {s : State} (h : ListsAgree s) {o i : Nat} (hw : readyToWork s o i = true) :
    GoesOn s (workActive o i s).1 := by
  have stays : GoesOn s s := ⟨rfl, h, rfl⟩
  obtain ⟨it, hi, hl, hfree⟩ := readyToWork_free h hw
  simp only [workActive, hi]
  split
  · split
    · exact stays
    · exact goesOn_askRestore h hi hl hfree _ _
  · exact stays

/-- An item whose fetch is due joins the slab-wait list, PENDING (R153, R156). -/
theorem goesOn_joinSlabWait {s : State} (h : ListsAgree s) {o i : Nat} (hw : readyToWork s o i = true) :
    GoesOn s (joinSlabWait o i s).1 := by
  obtain ⟨it, hi, hl, hfree⟩ := readyToWork_free h hw
  have hg : GoesOn s (setItemState o i .pending s) := goesOn_modifyItem h hi (by simpa [ItemRec.live] using hl) hfree
  have hnew : (o, i) ∉ (setItemState o i .pending s).slabWait := fun hm => hfree (.inl (by simpa using hm))
  refine hg.trans ⟨rfl, ⟨?_, fun x hx => ?_, hg.lists.jobs⟩, rfl⟩
  · exact List.nodup_append.mpr ⟨hg.lists.nodup, by simp, by rintro a ha _ (_ | ⟨_, ⟨⟩⟩) rfl; exact hnew ha⟩
  · obtain hx | hx := List.mem_append.mp hx
    · exact hg.lists.slabs x hx
    · obtain rfl := List.mem_singleton.mp hx
      exact itemState_modifyItem_self hi _

/-- What the first member of the slab-wait list is when it can have its slabs. -/
theorem slabHead_found {s : State} {o i : Nat} {it : ItemRec} {src : CopySource}
    (h : slabHead s = some (o, i, it, src)) :
    ∃ rest, s.slabWait = (o, i) :: rest ∧ findItem s o i = some it
      ∧ copySource s it.subject it.bound.copy = some src := by
  unfold slabHead at h
  split at h
  · cases h
  · next o' i' rest hs =>
    simp only [Option.bind_eq_some_iff] at h
    obtain ⟨it', hi, src', hc, hif⟩ := h
    split at hif
    · simp only [Option.some.injEq, Prod.mk.injEq] at hif
      obtain ⟨rfl, rfl, rfl, rfl⟩ := hif
      exact ⟨rest, hs, hi, hc⟩
    · cases hif

/-- The first item of the slab-wait list leaves it and begins its fetch (R156, R157). -/
theorem goesOn_grantSlabs {s : State} (h : ListsAgree s) : GoesOn s (grantSlabs s).1 := by
  unfold grantSlabs
  split
  · exact ⟨rfl, h, rfl⟩
  · next o i it src hh =>
    obtain ⟨rest, hs, hi, -⟩ := slabHead_found hh
    have hst : itemState s (o, i) = some .pending := h.slabs _ (by rw [hs]; exact List.mem_cons_self)
    have hit : it.state = .pending := by simpa [itemState, hi] using hst
    extract_lets n t u
    have ht : t.orders = s.orders ∧ t.slabWait = s.slabWait.tail ∧ t.jobs = s.jobs := by simp [t]
    obtain ⟨hto, hts, htj⟩ := ht
    have hleave : GoesOn s t := goesOn_shrink h hto (hts ▸ List.tail_sublist _) (.of_eq htj)
    have hfree : ¬ Listed t (o, i) := by
      rintro (hm | ⟨j, hj, hm⟩)
      · have hnd := h.nodup
        rw [hs] at hnd
        exact (List.nodup_cons.mp hnd).1 (by simpa [hts, hs] using hm)
      · rw [h.jobs j (htj ▸ hj) _ hm] at hst; cases hst
    have hfound : findItem t o i = some it := by rw [findItem_congr hto, hi]
    have hfetch : GoesOn t u := goesOn_modifyItem hleave.lists hfound (by simp [ItemRec.live, hit]) hfree
    exact (hleave.trans hfetch).trans (goesOn_shrink hfetch.lists (by simp) (by simp) (.of_eq (by simp)))

theorem jobsShrink_enterFetching (s : State) : JobsShrink s (enterFetching s).1 := by
  unfold enterFetching
  split
  · exact .of_eq rfl
  · extract_lets n g t
    have htake : JobsShrink s (takeSlabs (2 * n) s) := .of_eq (by simp)
    have henter : JobsShrink (takeSlabs (2 * n) s) t :=
      .of_map (modifyJob_writes _ _ _) fun _ => ⟨rfl, rfl, List.Subset.refl _⟩
    exact (htake.trans henter).trans (.of_eq (by simp))

theorem jobsShrink_enterRepairing (n : Nat) (s : State) : JobsShrink s (enterRepairing n s) :=
  .of_map rfl fun _ => ⟨rfl, rfl, List.Subset.refl _⟩

theorem jobsShrink_enterCommitting (n : Nat) (s : State) : JobsShrink s (enterCommitting n s) := by
  unfold enterCommitting
  split
  · exact .of_eq rfl
  · split
    · exact .of_eq rfl
    · exact .of_map rfl fun _ => ⟨rfl, rfl, List.Subset.refl _⟩

/-- A copy that is installed ends its job, and its items go on to fetch it (R124, R155). -/
theorem goesOn_installCopy {s : State} (h : ListsAgree s) (n : Nat) : GoesOn s (installCopy n s).1 := by
  unfold installCopy
  split
  · exact ⟨rfl, h, rfl⟩
  · next j hj =>
    split
    · next l p hl hp =>
      extract_lets t c u
      have ht : t.orders = s.orders ∧ t.slabWait = s.slabWait ∧ t.jobs = s.jobs := by
        unfold t; split <;> simp
      have hg : GoesOn s (modifyPlate j.plate (fun p => { p with restored := some c }) t) :=
        goesOn_shrink h (by simp [ht]) (by simp [ht]) (.of_eq (by simp [ht]))
      have hd : GoesOn s u := hg.trans (goesOn_endJob_detach hg.lists (by simpa [ht] using mem_of_findJob hj))
      exact hd.trans (goesOn_shrink hd.lists (by simp) (by simp) (.of_eq (by simp)))
    · exact ⟨rfl, h, rfl⟩

/-- A job that fails ends, and its items wait for none (R125, R126). -/
theorem goesOn_failJobNow {s : State} (h : ListsAgree s) (n : Nat) (why : JobEnd) (reason : CancelReason) :
    GoesOn s (failJobNow n why reason s).1 := by
  unfold failJobNow
  split
  · exact ⟨rfl, h, rfl⟩
  · next j hj =>
    have hd := goesOn_endJob_detach h (mem_of_findJob hj)
    exact hd.trans (goesOn_shrink hd.lists (by simp) (by simp) (.of_eq (by simp)))

theorem failRead_book (o : Owner) (s : State) : (failRead o s).1.orders = s.orders
    ∧ (failRead o s).1.slabWait = s.slabWait ∧ (failRead o s).1.jobs = s.jobs := by
  unfold failRead ownerFailed
  split
  · simp
  · split
    · split <;> simp
    · simp
    · simp

/-- Items in WAIT-EMBARGO return to PENDING (R36, R159). -/
theorem goesOn_returnItems {s : State} (h : ListsAgree s) {o : Nat} {l : List Nat} (hnd : l.Nodup)
    (hl : ∀ i ∈ l, itemState s (o, i) = some .waitEmbargo) :
    GoesOn s
      (l.foldl (fun s i => modifyItem o i (fun it => { it with state := .pending, embargoPassed := true }) s) s) := by
  induction l generalizing s with
  | nil => exact ⟨rfl, h, rfl⟩
  | cons i l ih =>
    have hst := hl i (by simp)
    obtain ⟨it, hi, hit⟩ : ∃ it, findItem s o i = some it ∧ it.state = .waitEmbargo := by
      simpa [itemState] using hst
    have hfree : ¬ Listed s (o, i) := by
      rintro (hm | ⟨j, hj, hm⟩)
      · rw [h.slabs _ hm] at hst; cases hst
      · rw [h.jobs j hj _ hm] at hst; cases hst
    have hg : GoesOn s (modifyItem o i (fun it => { it with state := .pending, embargoPassed := true }) s) :=
      goesOn_modifyItem h hi (by simp [ItemRec.live, hit]) hfree
    obtain ⟨hil, hnd⟩ := List.nodup_cons.mp hnd
    refine hg.trans (ih hg.lists hnd fun k hk => ?_)
    rw [itemState_modifyItem (ne_zero_of_findItem hi) _ _ (by rintro ⟨⟩; exact hil hk)]
    exact hl k (by simp [hk])

theorem goesOn_returnToTurn {s : State} (h : ListsAgree s) {o : Nat} {l : List Nat}
    (hw : wanted s (.returnItems o l) = true) : GoesOn s (returnToTurn o l s).1 := by
  obtain ⟨hnd, hl⟩ : l.Nodup ∧ ∀ i ∈ l, itemState s (o, i) = some .waitEmbargo := by
    simpa [wanted, itemState, Option.any_eq_true] using hw
  unfold returnToTurn
  split
  · exact ⟨rfl, h, rfl⟩
  · have hg := goesOn_returnItems h hnd hl
    dsimp only
    split <;> exact hg.trans (goesOn_modifyOrder hg.lists o fun _ => ⟨rfl, rfl⟩)

end Sys2Proof.Machine.CascadeLaws
end

section
/-! Cancelling an item (R162), one task, and what all the tasks of a request leave of the live items. -/

namespace Sys2Proof.Machine.CascadeLaws
open Sys2Proof Sys2Proof.Machine

/-! ### Cancelling an item (R162) -/

/-- A job that an item leaves is one without the item, or is gone. -/
theorem leaveJob_jobs {o i n : Nat} {s : State} {j : Job} (hj : j ∈ (leaveJob o i n s).jobs) :
    ∃ k ∈ s.jobs,
      j = if k.number = n then { k with waiting := k.waiting.filter fun x => decide (x ≠ (o, i)) } else k := by
  have hmod : j ∈ (modifyJob n (fun j =>
      { j with waiting := j.waiting.filter fun x => decide (x ≠ (o, i)) }) s).jobs := by
    unfold leaveJob at hj
    extract_lets t at hj
    split at hj
    · exact hj
    · next k hk =>
      split at hj
      · have hend : (raiseJobFailed k .orderCancelled 0 (endJob k t)).jobs = (endJob k t).jobs := by simp
        rw [hend, endJob_jobs] at hj
        exact List.mem_of_mem_filter hj
      · exact hj
  obtain ⟨k, hk, rfl⟩ := List.mem_map.mp hmod
  exact ⟨k, hk, rfl⟩

theorem jobsShrink_leaveJob (o i n : Nat) (s : State) : JobsShrink s (leaveJob o i n s) := by
  intro j hj
  obtain ⟨k, hk, rfl⟩ := leaveJob_jobs hj
  by_cases hn : k.number = n
  · exact ⟨k, hk, by simp [hn], by simp [hn], by simp [hn, List.filter_subset_self]⟩
  · exact ⟨k, hk, by simp [hn], by simp [hn], by simp [hn]⟩

theorem giveUp_lists (o i : Nat) (it : ItemRec) (s : State) :
    JobsShrink s (giveUp o i it s) ∧ (giveUp o i it s).slabWait.Sublist s.slabWait := by
  unfold giveUp
  split
  · exact ⟨.of_eq rfl, List.filter_sublist⟩
  · exact ⟨.of_eq rfl, .refl _⟩
  · next n _ => exact ⟨jobsShrink_leaveJob o i n s, by simp⟩
  · exact ⟨.of_eq rfl, .refl _⟩
  · exact ⟨.of_eq rfl, .refl _⟩
  · exact ⟨.of_eq rfl, .refl _⟩

/-- What gives up what it holds stands in no list. -/
theorem not_listed_giveUp {s : State} (h : ListsAgree s) {o i : Nat} {it : ItemRec} (hi : findItem s o i = some it) :
    ¬ Listed (giveUp o i it s) (o, i) := by
  have hst : itemState s (o, i) = some it.state := by rw [itemState, hi]; rfl
  obtain ⟨hshrink, hsub⟩ := giveUp_lists o i it s
  rintro (hm | ⟨j, hj, hm⟩)
  · have hp : it.state = .pending := Option.some.inj (hst.symm.trans (h.slabs _ (hsub.subset hm)))
    simp [giveUp, hp] at hm
  · obtain ⟨k, hk, hn, -, hw⟩ := hshrink j hj
    have hp : it.state = .waitRestore (some j.number) :=
      hn ▸ Option.some.inj (hst.symm.trans (h.jobs k hk _ (hw hm)))
    simp only [giveUp, hp] at hj
    obtain ⟨m, -, hjm⟩ := leaveJob_jobs hj
    have hmn : m.number = j.number := by rw [hjm]; split <;> rfl
    rw [hjm, if_pos hmn] at hm
    simp at hm

theorem findItem_leaveTurn (o i : Nat) (s : State) : findItem (leaveTurn o i s) = findItem s := by
  funext n k
  refine findItem_modifyOrder o ?_ s n k
  exact fun _ => ⟨rfl, rfl⟩

theorem numbers_leaveTurn (o i : Nat) (s : State) :
    (leaveTurn o i s).orders.map (·.number) = s.orders.map (·.number) := by
  refine numbers_modifyOrder o ?_ s
  exact fun _ => rfl

theorem raiseItemCancelled_orders (o i : Nat) (reason : CancelReason) (s : State) :
    (raiseItemCancelled o i reason s).orders = s.orders := by simp

theorem giveUp_orders (o i : Nat) (it : ItemRec) (s : State) : (giveUp o i it s).orders = s.orders := by simp

/-- What cancelling comes to: nothing for an item that is not live; else the item is done, what it held is given up, and
the order settles when that was its last. -/
theorem cancelItem_cases (o i : Nat) (reason : CancelReason) (s : State) :
    (liveSubject s (o, i) = none ∧ (cancelItem o i reason s).1 = s)
    ∨ ∃ it t, findItem s o i = some it ∧ (cancelItem o i reason s).1 = settleIfDone o t
        ∧ findItem t = findItem (modifyItem o i (ItemRec.finish (.cancelled reason)) s)
        ∧ t.slabWait = (giveUp o i it s).slabWait ∧ t.jobs = (giveUp o i it s).jobs
        ∧ t.units = (giveUp o i it s).units
        ∧ t.orders.map (·.number) = s.orders.map (·.number) := by
  unfold cancelItem
  split
  · next hi => exact .inl ⟨by simp [liveSubject, hi], rfl⟩
  · next it hi =>
    split
    · next hl => exact .inl ⟨by simp [liveSubject, hi, Option.filter, hl], rfl⟩
    · refine .inr ⟨it, _, hi, rfl, ?_, by simp, by simp, by simp, ?_⟩
      · rw [findItem_congr (raiseItemCancelled_orders ..)]
        funext n k
        rw [findItem_modifyItem (ne_zero_of_findItem hi), findItem_modifyItem (ne_zero_of_findItem hi),
          findItem_leaveTurn, findItem_congr (giveUp_orders ..)]
      · rw [raiseItemCancelled_orders, numbers_modifyItem, numbers_leaveTurn, giveUp_orders]

theorem orders_settleIfDone (o : Nat) (s : State) : (settleIfDone o s).orders.Sublist s.orders := by
  unfold settleIfDone
  split
  · exact .refl _
  · split
    · simp [settleOrder, List.filter_sublist]
    · exact .refl _

/-- The item named is live no more, and every other is as it was. -/
theorem liveSubject_cancelItem (o i : Nat) (reason : CancelReason) (s : State) :
    liveSubject (cancelItem o i reason s).1 = Function.update (liveSubject s) (o, i) none := by
  obtain ⟨hnone, h⟩ | ⟨it, t, hi, h, ht, -⟩ := cancelItem_cases o i reason s
  · rw [h, ← hnone, Function.update_eq_self]
  · rw [h, liveSubject_settleIfDone, liveSubject_congr ht, liveSubject_modifyItem_dead (ne_zero_of_findItem hi)]
    exact fun _ => rfl

theorem listsAgree_settleIfDone {s : State} (h : ListsAgree s) (o : Nat) : ListsAgree (settleIfDone o s) := by
  refine h.shrink (by simp) (.of_eq (by simp)) fun x hx _ => ?_
  obtain ⟨it, hi⟩ := h.found hx
  rw [itemState, itemState, hi, findItem_settleIfDone_of_live hi (h.live hx hi)]

theorem listsAgree_cancelItem {s : State} (h : ListsAgree s) (o i : Nat) (reason : CancelReason) :
    ListsAgree (cancelItem o i reason s).1 := by
  obtain ⟨-, hs⟩ | ⟨it, t, hi, hs, ht, hw, hj, -⟩ := cancelItem_cases o i reason s
  · rw [hs]; exact h
  · obtain ⟨hshrink, hsub⟩ := giveUp_lists o i it s
    rw [hs]
    refine listsAgree_settleIfDone (h.shrink (hw ▸ hsub) (hshrink.trans (.of_eq hj)) fun x _ hx => ?_) o
    have hxi : x ≠ (o, i) := fun he => not_listed_giveUp h hi (by simpa [Listed, hw, hj, he] using hx)
    rw [itemState_congr ht, itemState_modifyItem (ne_zero_of_findItem hi) _ _ hxi]

theorem numbers_cancelItem (o i : Nat) (reason : CancelReason) (s : State) :
    ((cancelItem o i reason s).1.orders.map (·.number)).Sublist (s.orders.map (·.number)) := by
  obtain ⟨-, hs⟩ | ⟨it, t, -, hs, -, -, -, -, hn⟩ := cancelItem_cases o i reason s
  · rw [hs]
  · rw [hs, ← hn]
    exact (orders_settleIfDone o t).map _

/-! ### One task -/

/-- The lists agree and no two orders have one number. -/
structure BookWf (s : State) : Prop where
  lists : ListsAgree s
  numbers : (s.orders.map (·.number)).Nodup

theorem GoesOn.bookWf {s t : State} (h : GoesOn s t) (hs : BookWf s) : BookWf t := ⟨h.lists, h.numbers ▸ hs.numbers⟩

/-- Every task but a cancellation leaves the live items as they are. -/
theorem goesOn_perform {s : State} (h : ListsAgree s) {t : Task} (ht : ∀ o i reason, t ≠ .cancel o i reason) :
    GoesOn s (perform t s).1 := by
  have stays : GoesOn s s := ⟨rfl, h, rfl⟩
  unfold perform
  split
  · next hw =>
    cases t with
    | cancel o i reason => exact absurd rfl (ht o i reason)
    | activate o => exact goesOn_activateOrder h hw
    | workItem o i => exact goesOn_workActive h hw
    | goFetch o i => exact goesOn_joinSlabWait h hw
    | askSlabs => exact goesOn_grantSlabs h
    | examineWaiting =>
      exact goesOn_shrink h (by simp [carryOut]) (by simp [carryOut]) (jobsShrink_enterFetching s)
    | failAtOnce o =>
      obtain ⟨ho, hsl, hj⟩ := failRead_book o s
      exact goesOn_shrink h ho (by rw [carryOut, hsl]) (.of_eq hj)
    | failJob n why reason => exact goesOn_failJobNow h n why reason
    | startRepair n => exact goesOn_shrink h (by simp [carryOut]) (by simp [carryOut]) (jobsShrink_enterRepairing n s)
    | claimPlace n => exact goesOn_shrink h (by simp [carryOut]) (by simp [carryOut]) (jobsShrink_enterCommitting n s)
    | install n => exact goesOn_installCopy h n
    | rework o i => exact goesOn_shrink h rfl (.refl _) (.of_eq rfl)
    | returnItems o l => exact goesOn_returnToTurn h hw
  · exact stays

theorem perform_cancel (o i : Nat) (reason : CancelReason) (s : State) :
    perform (.cancel o i reason) s = cancelItem o i reason s := rfl

/-- Every task keeps the book. -/
theorem bookWf_perform (t : Task) {s : State} (h : BookWf s) : BookWf (perform t s).1 := by
  by_cases ht : ∃ o i reason, t = .cancel o i reason
  · obtain ⟨o, i, reason, rfl⟩ := ht
    exact ⟨listsAgree_cancelItem h.lists o i reason, h.numbers.sublist (numbers_cancelItem o i reason s)⟩
  · exact (goesOn_perform h.lists fun o i reason he => ht ⟨o, i, reason, he⟩).bookWf h

/-- No task makes an item live, or gives one another subject. -/
theorem liveSubject_perform (t : Task) {s : State} (h : BookWf s) (x : Nat × Nat) :
    liveSubject (perform t s).1 x = none ∨ liveSubject (perform t s).1 x = liveSubject s x := by
  by_cases ht : ∃ o i reason, t = .cancel o i reason
  · obtain ⟨o, i, reason, rfl⟩ := ht
    rw [perform_cancel, liveSubject_cancelItem]
    by_cases hx : x = (o, i)
    · exact .inl (by rw [hx, Function.update_self])
    · exact .inr (Function.update_of_ne hx _ _)
  · exact .inr (by rw [(goesOn_perform h.lists fun o i reason he => ht ⟨o, i, reason, he⟩).live])

/-! ### All that a request's tasks lead to -/

/-- An item that is not live stays so. -/
theorem done_stays_done (x : Nat × Nat) (t : Task) (s : State) (h : BookWf s ∧ liveSubject s x = none) :
    BookWf (perform t s).1 ∧ liveSubject (perform t s).1 x = none := by
  obtain ⟨hb, hx⟩ := h
  exact ⟨bookWf_perform t hb, (liveSubject_perform t hb x).elim id fun he => he.trans hx⟩

theorem bookWf_drainTally {s : State} (h : BookWf s) (l : List Task) : BookWf (drainTally l s).state :=
  drainTally_induction (P := BookWf) (fun t _ h => bookWf_perform t h) l s h

theorem liveSubject_drainTally {s : State} (h : BookWf s) (l : List Task) (x : Nat × Nat) :
    liveSubject (drainTally l s).state x = none ∨ liveSubject (drainTally l s).state x = liveSubject s x := by
  refine (drainTally_induction (P := fun t => BookWf t ∧ (liveSubject t x = none ∨ liveSubject t x = liveSubject s x))
    (fun t u ⟨hb, hx⟩ => ⟨bookWf_perform t hb, ?_⟩) l s ⟨h, .inr rfl⟩).2
  obtain hn | he := liveSubject_perform t hb x
  · exact .inl hn
  · rw [he]; exact hx

/-- Every item that the request cancels is live no more. -/
theorem drainTally_cancels {s : State} (h : BookWf s) {l : List Task} {o i : Nat} {reason : CancelReason}
    (hl : .cancel o i reason ∈ l) : liveSubject (drainTally l s).state (o, i) = none := by
  obtain ⟨before, after, rfl⟩ := List.append_of_mem hl
  refine (followUps_induction (P := fun u => BookWf u ∧ liveSubject u (o, i) = none) (done_stays_done (o, i)) _ _ _
    ?_).2
  rw [drainTasks, List.foldl_append, List.foldl_cons]
  refine drainTasks_induction (done_stays_done (o, i)) _ after _ (workOff_induction (done_stays_done (o, i)) _ _ _ ?_)
  refine ⟨bookWf_perform _ (drainTasks_induction (fun t _ h => bookWf_perform t h) _ before _ h), ?_⟩
  rw [perform_cancel, liveSubject_cancelItem, Function.update_self]

end Sys2Proof.Machine.CascadeLaws
end

section
/-! The tasks that a task gives, and what every task keeps of the copies that reads need (R89). -/

namespace Sys2Proof.Machine.CascadeLaws
open Sys2Proof Sys2Proof.Machine

/-! ### The tasks that a task gives -/

/-- A task by which no item can be cancelled. -/
def calm : Task → Bool
  | .cancel .. => false
  | .failAtOnce _ => false
  | .failJob .. => false
  | _ => true

/-- A task by which no item is cancelled for a request's own reason. -/
def uncounted : Task → Bool
  | .cancel _ _ reason => !reason.byRequest
  | .failJob _ _ reason => !reason.byRequest
  | _ => true

theorem uncounted_of_calm {t : Task} (h : calm t = true) : uncounted t = true := by
  cases t with
  | cancel | failAtOnce | failJob => cases h
  | _ => rfl

theorem hits_of_uncounted {t : Task} (h : uncounted t = true) (s : State) : t.hits s = 0 := by
  cases t <;> simp_all [uncounted, Task.hits]

/-- The first WAITING job when it can enter FETCHING. -/
theorem waitingHead_found {s : State} {j : Job} {src : CopySource} (h : waitingHead s = some (j, src)) :
    copySource s (.plate j.plate) .original = some src := by
  unfold waitingHead at h
  split at h
  · cases h
  · simp only [Option.bind_eq_some_iff] at h
    obtain ⟨j', -, src', hc, hif⟩ := h
    split at hif
    · obtain ⟨rfl, rfl⟩ := Prod.mk.inj (Option.some.inj hif)
      exact hc
    · cases hif

/-- A read fails at once only at a unit that cannot be read (R89). -/
theorem mem_failIfUnreadable {s : State} {x : Subject} {c : Copy} {src : CopySource} {o : Owner} {u : Task}
    (hc : copySource s x c = some src) (hu : u ∈ failIfUnreadable s o src.loc.unit) :
    u = .failAtOnce o ∧ ¬ AllReadable s := by
  unfold failIfUnreadable at hu
  split at hu
  · next hr => exact ⟨List.mem_singleton.mp hu, fun h => absurd (h.1 x c src hc) (by simp [hr])⟩
  · cases hu

theorem cancelItem_gives {o i : Nat} {reason : CancelReason} {s : State} {u : Task}
    (hu : u ∈ (cancelItem o i reason s).2) : u = .activate o := by
  unfold cancelItem at hu
  split at hu
  · cases hu
  · split at hu
    · cases hu
    · dsimp only at hu
      split at hu
      · exact List.mem_singleton.mp hu
      · cases hu

theorem failRead_gives {o : Owner} {s : State} {u : Task} (hu : u ∈ (failRead o s).2) : uncounted u = true := by
  unfold failRead ownerFailed at hu
  split at hu
  · cases hu
  · split at hu
    · split at hu <;> cases hu
    · obtain rfl := List.mem_singleton.mp hu; rfl
    · obtain rfl := List.mem_singleton.mp hu; rfl

/-- The tasks that a task gives: none of them can cancel an item, but that a read at a unit that cannot be read fails,
that such a read's owner fails, and that a failed job's items are cancelled for the job's reason. -/
theorem perform_gives {t u : Task} {s : State} (hu : u ∈ (perform t s).2) :
    calm u = true
    ∨ ((∃ o, u = .failAtOnce o) ∧ ¬ AllReadable s)
    ∨ ((∃ o, t = .failAtOnce o) ∧ uncounted u = true)
    ∨ ∃ n why reason o i, t = .failJob n why reason ∧ u = .cancel o i reason := by
  unfold perform at hu
  split at hu
  · cases t with
    | cancel o i reason => exact .inl (by rw [cancelItem_gives hu]; rfl)
    | activate o =>
      simp only [carryOut, activateOrder] at hu
      (repeat' split at hu) <;> simp_all [calm]
    | workItem o i =>
      simp only [carryOut, workActive, askRestore] at hu
      (repeat' split at hu) <;> simp_all [calm]
    | goFetch o i =>
      simp only [carryOut, joinSlabWait] at hu
      split at hu <;> simp_all [calm]
    | askSlabs =>
      simp only [carryOut, grantSlabs] at hu
      split at hu
      · cases hu
      · next o i it src hh =>
        obtain ⟨rest, -, -, hc⟩ := slabHead_found hh
        obtain hu | hu := List.mem_append.mp hu
        · exact .inr (.inl ⟨⟨_, (mem_failIfUnreadable hc hu).1⟩, (mem_failIfUnreadable hc hu).2⟩)
        · exact .inl (by rw [List.mem_singleton.mp hu]; rfl)
    | examineWaiting =>
      simp only [carryOut, enterFetching] at hu
      split at hu
      · cases hu
      · next j src hh =>
        have hc := waitingHead_found hh
        exact .inr (.inl ⟨⟨_, (mem_failIfUnreadable hc hu).1⟩, (mem_failIfUnreadable hc hu).2⟩)
    | failAtOnce o => exact .inr (.inr (.inl ⟨⟨o, rfl⟩, failRead_gives hu⟩))
    | failJob n why reason =>
      simp only [carryOut, failJobNow] at hu
      split at hu
      · cases hu
      · obtain ⟨x, -, rfl⟩ := List.mem_map.mp hu
        exact .inr (.inr (.inr ⟨n, why, reason, x.1, x.2, rfl, rfl⟩))
    | startRepair n => cases hu
    | claimPlace n => cases hu
    | install n =>
      simp only [carryOut, installCopy] at hu
      split at hu
      · cases hu
      · split at hu
        · obtain ⟨x, -, rfl⟩ := List.mem_map.mp hu; exact .inl rfl
        · cases hu
    | rework o i => exact .inl (by rw [List.mem_singleton.mp hu]; rfl)
    | returnItems o l =>
      simp only [carryOut, returnToTurn] at hu
      (repeat' split at hu) <;> simp_all [calm]
  · cases hu

/-- Where every unit can be read, what leads to no cancellation, or is one, leads to none. -/
theorem calm_perform {s : State} (h : AllReadable s) {t : Task}
    (ht : calm t = true ∨ ∃ o i reason, t = .cancel o i reason) {u : Task} (hu : u ∈ (perform t s).2) :
    calm u = true := by
  obtain hc | ⟨-, hr⟩ | ⟨⟨o, rfl⟩, -⟩ | ⟨n, why, reason, o, i, rfl, -⟩ := perform_gives hu
  · exact hc
  · exact absurd h hr
  · simp [calm] at ht
  · simp [calm] at ht

/-- No task gives one that cancels for a request's own reason, but one that does so itself. -/
theorem uncounted_perform {s : State} {t : Task} (ht : uncounted t = true ∨ ∃ o i reason, t = .cancel o i reason)
    {u : Task} (hu : u ∈ (perform t s).2) : uncounted u = true := by
  obtain hc | ⟨⟨o, rfl⟩, -⟩ | ⟨-, hc⟩ | ⟨n, why, reason, o, i, rfl, rfl⟩ := perform_gives hu
  · exact uncounted_of_calm hc
  · rfl
  · exact hc
  · simpa [uncounted] using ht

theorem calm_followUp {s : State} {t : Task} (h : followUp s = some t) : calm t = true := by
  unfold followUp at h
  (repeat' split at h) <;> cases h <;> rfl

/-! ### What every task keeps of the copies -/

theorem unit_state_of_map {s t : State} (h : t.units.map (·.state) = s.units.map (·.state)) (u : Nat) :
    (unitAt t u).state = (unitAt s u).state := by
  have hu : (t.units[u]?).map (·.state) = (s.units[u]?).map (·.state) := by
    rw [← List.getElem?_map, h, List.getElem?_map]
  unfold unitAt
  rw [List.getD_eq_getElem?_getD, List.getD_eq_getElem?_getD]
  cases ht : t.units[u]? <;> cases hs : s.units[u]? <;> simp_all

/-- Where the catalogue and the units' states are as they were and no copy has come to await installation, every unit
can be read as before. -/
theorem allReadable_of_same {s t : State} (h : AllReadable s) (he : t.editions = s.editions) (hp : t.photos = s.photos)
    (hu : t.units.map (·.state) = s.units.map (·.state))
    (hj : ∀ j ∈ t.jobs, ∀ l ∈ j.stored, ∃ k ∈ s.jobs, l ∈ k.stored) : AllReadable t := by
  have hc : copySource t = copySource s := by
    funext x c
    simp only [copySource, findPlate, findEdition, findPhoto, he, hp]
  refine ⟨fun x c src hx => ?_, fun j hjt l hl => ?_⟩
  · rw [unit_state_of_map hu]; exact h.1 x c src (hc ▸ hx)
  · obtain ⟨k, hk, hl⟩ := hj j hjt l hl
    rw [unit_state_of_map hu]; exact h.2 k hk l hl

theorem JobsShrink.stored {s t : State} (h : JobsShrink s t) :
    ∀ j ∈ t.jobs, ∀ l ∈ j.stored, ∃ k ∈ s.jobs, l ∈ k.stored := by
  intro j hj l hl
  obtain ⟨k, hk, -, hs, -⟩ := h j hj
  exact ⟨k, hk, hs ▸ hl⟩

theorem endReads_states (o : Owner) (s : State) : (endReads o s).units.map (·.state) = s.units.map (·.state) := by
  rw [(endReads_writes o s).2, List.map_map]
  refine List.map_congr_left fun x _ => ?_
  unfold UnitRec.orphan
  simp only [Function.comp]
  split
  · split <;> rfl
  · rfl

theorem endJob_states (j : Job) (s : State) : (endJob j s).units.map (·.state) = s.units.map (·.state) :=
  endReads_states (.job j.number) s

theorem freeTicket_states (x : Ticket) (s : State) : (freeTicket x s).units.map (·.state) = s.units.map (·.state) :=
  endReads_states (.ticket x.number) _

theorem returnExtents_states (l : Location) (n : Nat) (s : State) :
    (returnExtents l n s).units.map (·.state) = s.units.map (·.state) := by
  unfold returnExtents
  split
  · rfl
  · refine List.ext_getElem? fun k => ?_
    rw [List.getElem?_map, List.getElem?_map]
    simp [List.getElem?_modify]
    cases s.units[k]? with
    | none => rfl
    | some x => by_cases hk : l.unit = k <;> simp [hk]

theorem giveUp_states (o i : Nat) (it : ItemRec) (s : State) :
    (giveUp o i it s).units.map (·.state) = s.units.map (·.state) := by
  unfold giveUp
  split
  · rfl
  · rfl
  · unfold leaveJob
    extract_lets t
    split
    · rfl
    · split
      · simp [endJob_states, t]
      · rfl
  · exact endReads_states (.item o i) s
  · rfl
  · rfl

theorem allReadable_cancelItem {s : State} (h : AllReadable s) (o i : Nat) (reason : CancelReason) :
    AllReadable (cancelItem o i reason s).1 := by
  obtain ⟨-, hs⟩ | ⟨it, t, -, hs, -, -, hj, hu, -⟩ := cancelItem_cases o i reason s
  · rw [hs]; exact h
  · refine allReadable_of_same h (by simp) (by simp) ?_
      ((giveUp_lists o i it s).1.trans (.of_eq (by simp [hs, hj]))).stored
    rw [hs, (show (settleIfDone o t).units = t.units by simp), hu, giveUp_states]

/-- A job that is created has no copy that awaits installation. -/
theorem workActive_stored (o i : Nat) (s : State) :
    ∀ j ∈ (workActive o i s).1.jobs, ∀ l ∈ j.stored, ∃ k ∈ s.jobs, l ∈ k.stored := by
  have same : ∀ j ∈ s.jobs, ∀ l ∈ j.stored, ∃ k ∈ s.jobs, l ∈ k.stored := fun j hj l hl => ⟨j, hj, hl⟩
  unfold workActive
  split
  · exact same
  · split
    · split
      · exact same
      · unfold askRestore
        split
        · split
          · intro j hj l hl
            obtain ⟨k, hk, rfl⟩ := List.mem_map.mp hj
            refine ⟨k, hk, ?_⟩
            split at hl <;> exact hl
          · exact same
        · split
          · intro j hj l hl
            obtain hj | hj := List.mem_append.mp hj
            · exact same j hj l hl
            · obtain rfl := List.mem_singleton.mp hj
              cases hl
          · exact same
    · exact same

/-- A change of one plate: every plate found is as it was, or is one that was found, changed. -/
theorem findPlate_modifyPlate {r x : PlateRef} {f : Plate → Plate} {s : State} {p : Plate}
    (h : findPlate (modifyPlate r f s) x = some p) : ∃ q, findPlate s x = some q ∧ (p = q ∨ p = f q) := by
  simp only [findPlate, findEdition, modifyPlate, modifyEdition, List.find?_map, Option.bind_eq_some_iff,
    Option.map_eq_some_iff] at h
  obtain ⟨_, ⟨e, he, rfl⟩, y, hy, hp⟩ := h
  have hkey : (Edition.hasKey x.day x.index ∘ fun e => if e.hasKey r.day r.index then
      Edition.modifySlot r.page (fun p => { p with plates := p.plates.modify (r.plate - 1) f }) e else e)
        = Edition.hasKey x.day x.index := by
    funext e; simp only [Function.comp]; split <;> rfl
  rw [hkey] at he
  suffices ∃ z, e.slot x.page = some z ∧ ∃ q, z.plate x.plate = some q ∧ (p = q ∨ p = f q) by
    obtain ⟨z, hz, q, hq, hpq⟩ := this
    exact ⟨q, by simp [findPlate, findEdition, he, hz, hq], hpq⟩
  split at hy
  · simp only [Edition.slot, Edition.modifySlot, List.find?_map, Option.map_eq_some_iff] at hy
    obtain ⟨z, hz, rfl⟩ := hy
    have hpage : ((fun p : PageSlot => decide (p.page = x.page)) ∘ fun p => if p.page = r.page then
        { p with plates := p.plates.modify (r.plate - 1) f } else p) = fun p => decide (p.page = x.page) := by
      funext p; simp only [Function.comp]; split <;> rfl
    rw [hpage] at hz
    refine ⟨z, hz, ?_⟩
    split at hp
    · unfold PageSlot.plate at hp ⊢
      split at hp
      · cases hp
      · next hn =>
        rw [if_neg hn]
        rw [List.getElem?_modify] at hp
        obtain ⟨q, hq, rfl⟩ := Option.map_eq_some_iff.mp hp
        refine ⟨q, hq, ?_⟩
        split
        · exact .inr rfl
        · exact .inl rfl
    · exact ⟨p, hp, .inl rfl⟩
  · exact ⟨y, hy, p, hp, .inl rfl⟩

/-- A restored copy that lies at a unit that can be read. -/
theorem allReadable_restored {s : State} (h : AllReadable s) (r : PlateRef) {c : RestoredCopy}
    (hc : (unitAt s c.loc.unit).state.unreadable = false) :
    AllReadable (modifyPlate r (fun p => { p with restored := some c }) s) := by
  refine ⟨fun x k src hx => ?_, fun m hm => h.2 m hm⟩
  rw [unit_state_of_map (s := s) (by simp)]
  cases x with
  | photo m => exact h.1 (.photo m) k src (by cases k <;> exact hx)
  | plate x =>
    cases k with
    | original =>
      obtain ⟨p, hp, hsrc⟩ := Option.bind_eq_some_iff.mp hx
      obtain ⟨q, hq, rfl | rfl⟩ := findPlate_modifyPlate hp
      · exact h.1 (.plate x) .original src (by simp [copySource, hq, hsrc])
      · exact h.1 (.plate x) .original src (by simpa [copySource, hq] using hsrc)
    | restored =>
      obtain ⟨p, hp, hsrc⟩ := Option.bind_eq_some_iff.mp hx
      obtain ⟨q, hq, rfl | rfl⟩ := findPlate_modifyPlate hp
      · exact h.1 (.plate x) .restored src (by simp [copySource, hq, hsrc])
      · obtain rfl : (⟨c.loc, c.size, c.check⟩ : CopySource) = src := by simpa using hsrc
        exact hc

/-- A copy installed lies where the job had stored it. -/
theorem allReadable_installCopy {s : State} (h : AllReadable s) (n : Nat) : AllReadable (installCopy n s).1 := by
  unfold installCopy
  split
  · exact h
  · next j hj =>
    split
    · next l p hl hp =>
      extract_lets t c u
      have ht : t.editions = s.editions ∧ t.photos = s.photos ∧ t.jobs = s.jobs
          ∧ t.units.map (·.state) = s.units.map (·.state) := by
        unfold t
        split
        · next old _ => exact ⟨by simp, by simp, by simp, returnExtents_states ..⟩
        · exact ⟨rfl, rfl, rfl, rfl⟩
      obtain ⟨hte, htp, htj, htu⟩ := ht
      have hread : AllReadable t := allReadable_of_same h hte htp htu (JobsShrink.of_eq htj).stored
      have hplate := allReadable_restored hread j.plate (c := c) (hread.2 j (htj ▸ mem_of_findJob hj) l hl)
      have hend : AllReadable u := by
        refine allReadable_of_same hplate (by simp [u]) (by simp [u]) (by simp [u, endJob_states])
          (JobsShrink.of_subset ?_).stored
        simp [u, endJob_jobs, List.filter_subset_self]
      exact allReadable_of_same hend (by simp) (by simp) (by simp) (JobsShrink.of_eq (by simp)).stored
    · exact h

theorem allReadable_failRead {s : State} (h : AllReadable s) (o : Owner) : AllReadable (failRead o s).1 := by
  refine allReadable_of_same h (by simp) (by simp) ?_ (JobsShrink.of_eq (failRead_book o s).2.2).stored
  unfold failRead ownerFailed
  split
  · rfl
  · split
    · split
      · simp
      · simp [freeTicket_states]
    · simp
    · simp

theorem allReadable_failJobNow {s : State} (h : AllReadable s) (n : Nat) (why : JobEnd) (reason : CancelReason) :
    AllReadable (failJobNow n why reason s).1 := by
  unfold failJobNow
  split
  · exact h
  · next j _ =>
    refine allReadable_of_same h (by simp) (by simp) (by simp [endJob_states]) (JobsShrink.of_subset ?_).stored
    simp [endJob_jobs, List.filter_subset_self]

/-- No task moves a copy to a unit that cannot be read. -/
theorem allReadable_perform (t : Task) {s : State} (h : AllReadable s) : AllReadable (perform t s).1 := by
  unfold perform
  split
  · cases t with
    | cancel o i reason => exact allReadable_cancelItem h o i reason
    | failAtOnce o => exact allReadable_failRead h o
    | failJob n why reason => exact allReadable_failJobNow h n why reason
    | install n => exact allReadable_installCopy h n
    | workItem o i =>
      exact allReadable_of_same h (by simp [carryOut]) (by simp [carryOut]) (by simp [carryOut])
        (workActive_stored o i s)
    | examineWaiting =>
      exact allReadable_of_same h (by simp [carryOut]) (by simp [carryOut]) (by simp [carryOut])
        (jobsShrink_enterFetching s).stored
    | startRepair n =>
      exact allReadable_of_same h (by simp [carryOut]) (by simp [carryOut]) (by simp [carryOut])
        (jobsShrink_enterRepairing n s).stored
    | claimPlace n =>
      exact allReadable_of_same h (by simp [carryOut]) (by simp [carryOut]) (by simp [carryOut])
        (jobsShrink_enterCommitting n s).stored
    | _ =>
      exact allReadable_of_same h (by simp [carryOut]) (by simp [carryOut]) (by simp [carryOut])
        (JobsShrink.of_eq (by simp [carryOut])).stored
  · exact h

end Sys2Proof.Machine.CascadeLaws
end

section
/-! How many items a request's tasks cancel (R25, R37), and the live items on a subject. -/

namespace Sys2Proof.Machine.CascadeLaws
open Sys2Proof Sys2Proof.Machine

/-! ### How many items a request's tasks cancel -/

section
variable {P : State → Prop} {Q : Task → Prop}
  (hstep : ∀ t s, P s → Q t → P (perform t s).1 ∧ ∀ u ∈ (perform t s).2, Q u)
  (hhits : ∀ t s, Q t → t.hits s = 0)
include hstep hhits

/-- Tasks of a kind that counts nothing and gives only its own kind count nothing. -/
theorem workOff_uncounted (n : Nat) (l : List Task) (w : Tally) (hw : P w.state) (hl : ∀ t ∈ l, Q t) :
    P (workOff n l w).state ∧ (workOff n l w).cancelled = w.cancelled := by
  induction n generalizing l w with
  | zero => exact ⟨hw, rfl⟩
  | succ n ih =>
    cases l with
    | nil => exact ⟨hw, rfl⟩
    | cons t l =>
      obtain ⟨hp, hq⟩ := hstep t w.state hw (hl t (by simp))
      obtain ⟨hp', hc⟩ := ih ((perform t w.state).2 ++ l) ⟨(perform t w.state).1, w.cancelled + t.hits w.state⟩ hp
        fun u hu => (List.mem_append.mp hu).elim (hq u) fun hu => hl u (by simp [hu])
      exact ⟨hp', hc.trans (by simp [hhits t w.state (hl t (by simp))])⟩

theorem followUps_uncounted (hnext : ∀ s t, followUp s = some t → Q t) (k n : Nat) (w : Tally) (hw : P w.state) :
    (followUps k n w).cancelled = w.cancelled := by
  induction k generalizing w with
  | zero => rfl
  | succ k ih =>
    unfold followUps
    split
    · rfl
    · next t ht =>
      have hq := hnext w.state t ht
      obtain ⟨hp, hg⟩ := hstep t w.state hw hq
      obtain ⟨hp', hc⟩ := workOff_uncounted hstep hhits n (perform t w.state).2
        ⟨(perform t w.state).1, w.cancelled + t.hits w.state⟩ hp hg
      exact (ih _ hp').trans (hc.trans (by simp [hhits t w.state hq]))

end

theorem hits_le_one (t : Task) (s : State) : t.hits s ≤ 1 := by
  cases t with
  | cancel o i reason => unfold Task.hits; dsimp only; split <;> decide
  | _ => exact Nat.zero_le 1

/-- A cancellation for a request's own reason counts its item while that is live. -/
theorem hits_cancel {s : State} {x : Nat × Nat} (hx : (liveSubject s x).isSome = true) {reason : CancelReason}
    (hr : reason.byRequest = true) : (Task.cancel x.1 x.2 reason).hits s = 1 := by
  cases hi : findItem s x.1 x.2 <;> simp_all [liveSubject, Task.hits, Option.filter]

theorem uncounted_step (t : Task) (s : State) (_ : True) (ht : uncounted t = true) :
    True ∧ ∀ u ∈ (perform t s).2, uncounted u = true := ⟨trivial, fun _ hu => uncounted_perform (.inl ht) hu⟩

theorem drainTasks_cancelled_le {l : List Task} (hl : ∀ t ∈ l, ∃ o i reason, t = .cancel o i reason) (n : Nat)
    (w : Tally) : (drainTasks n l w).cancelled ≤ w.cancelled + l.length := by
  induction l generalizing w with
  | nil => rfl
  | cons t l ih =>
    have hone : (workTask n w t).cancelled = w.cancelled + t.hits w.state :=
      (workOff_uncounted (P := fun _ => True) uncounted_step (fun _ s ht => hits_of_uncounted ht s) n _ _ trivial
        fun u hu => uncounted_perform (.inr (hl t (by simp))) hu).2
    have hrest := ih (fun u hu => hl u (by simp [hu])) (workTask n w t)
    have := hits_le_one t w.state
    rw [drainTasks, List.foldl_cons, List.length_cons, ← drainTasks]
    omega

/-- A request's cancellations count one item each at most. -/
theorem drainTally_cancelled_le {l : List Task} (hl : ∀ t ∈ l, ∃ o i reason, t = .cancel o i reason) (s : State) :
    (drainTally l s).cancelled ≤ l.length := by
  have hnext : ∀ s t, followUp s = some t → uncounted t = true := fun s t ht => uncounted_of_calm (calm_followUp ht)
  unfold drainTally
  rw [followUps_uncounted (P := fun _ => True) uncounted_step (fun _ s ht => hits_of_uncounted ht s) hnext _ _ _
    trivial]
  simpa using drainTasks_cancelled_le hl (taskBound l s) ⟨s, 0⟩

/-- The book is as it should be, every unit can be read, and these are the live items. -/
structure Steady (live : Nat × Nat → Option Subject) (s : State) : Prop where
  readable : AllReadable s
  book : BookWf s
  live : liveSubject s = live

theorem steady_step (live : Nat × Nat → Option Subject) (t : Task) (s : State) (h : Steady live s)
    (ht : calm t = true) :
    Steady live (perform t s).1 ∧ ∀ u ∈ (perform t s).2, calm u = true := by
  have hg : GoesOn s (perform t s).1 := goesOn_perform h.book.lists fun o i reason he => by rw [he] at ht; cases ht
  exact ⟨⟨allReadable_perform t h.readable, hg.bookWf h.book, hg.live.trans h.live⟩,
    fun u hu => calm_perform h.readable (.inl ht) hu⟩

/-- A cancellation with all it leads to takes the item it names from the live ones, and no other. -/
theorem workTask_cancel {live : Nat × Nat → Option Subject} {w : Tally} (h : Steady live w.state) {x : Nat × Nat}
    (hx : (live x).isSome = true) {reason : CancelReason} (hr : reason.byRequest = true) (n : Nat) :
    Steady (Function.update live x none) (workTask n w (.cancel x.1 x.2 reason)).state
      ∧ (workTask n w (.cancel x.1 x.2 reason)).cancelled = w.cancelled + 1 := by
  have hfirst : Steady (Function.update live x none) (perform (.cancel x.1 x.2 reason) w.state).1 :=
    ⟨allReadable_perform _ h.readable, bookWf_perform _ h.book,
      h.live ▸ liveSubject_cancelItem x.1 x.2 reason w.state⟩
  obtain ⟨hs, hc⟩ := workOff_uncounted (steady_step _) (fun _ s ht => hits_of_uncounted (uncounted_of_calm ht) s) n _
    ⟨(perform (.cancel x.1 x.2 reason) w.state).1, w.cancelled + (Task.cancel x.1 x.2 reason).hits w.state⟩ hfirst
    fun u hu => calm_perform h.readable (.inr ⟨_, _, _, rfl⟩) hu
  exact ⟨hs, hc.trans (by rw [hits_cancel (h.live ▸ hx) hr])⟩

theorem drainTasks_cancelled_eq {live : Nat × Nat → Option Subject} {w : Tally} (h : Steady live w.state)
    {l : List (Nat × Nat)} (hnd : l.Nodup) (hl : ∀ x ∈ l, (live x).isSome = true) {reason : CancelReason}
    (hr : reason.byRequest = true) (n : Nat) :
    (∃ left, Steady left (drainTasks n (l.map fun x => .cancel x.1 x.2 reason) w).state)
      ∧ (drainTasks n (l.map fun x => .cancel x.1 x.2 reason) w).cancelled = w.cancelled + l.length := by
  induction l generalizing live w with
  | nil => exact ⟨⟨live, h⟩, rfl⟩
  | cons x l ih =>
    obtain ⟨hx, hnd⟩ := List.nodup_cons.mp hnd
    obtain ⟨hs, hc⟩ := workTask_cancel h (hl x (by simp)) hr n
    obtain ⟨hleft, hcount⟩ := ih hs hnd fun y hy => by
      have hyx : y ≠ x := fun he => hx (he ▸ hy)
      rw [Function.update_of_ne hyx]
      exact hl y (by simp [hy])
    refine ⟨hleft, hcount.trans ?_⟩
    rw [hc, List.length_cons]
    omega

/-- Where every unit can be read, a request's cancellations count every live item they name. -/
theorem drainTally_cancelled_eq {s : State} (hread : AllReadable s) (hbook : BookWf s) {l : List (Nat × Nat)}
    (hnd : l.Nodup) (hl : ∀ x ∈ l, (liveSubject s x).isSome = true) {reason : CancelReason}
    (hr : reason.byRequest = true) :
    (drainTally (l.map fun x => .cancel x.1 x.2 reason) s).cancelled = l.length := by
  obtain ⟨⟨left, hs⟩, hc⟩ := drainTasks_cancelled_eq (w := ⟨s, 0⟩) ⟨hread, hbook, rfl⟩ hnd hl hr
    (taskBound (l.map fun x => .cancel x.1 x.2 reason) s)
  unfold drainTally
  rw [followUps_uncounted (steady_step left) (fun _ s ht => hits_of_uncounted (uncounted_of_calm ht) s)
    (fun s t ht => calm_followUp ht) _ _ _ hs, hc]
  simp

/-! ### The live items on a subject (R25, R37) -/

theorem findOrder_of_mem {s : State} (h : BookWf s) {y : OrderRec} (hy : y ∈ s.orders) :
    findOrder s y.number = some y := by
  obtain ⟨z, hz⟩ : ∃ z, findOrder s y.number = some z := by
    rw [← Option.isSome_iff_exists, findOrder, List.find?_isSome]
    exact ⟨y, hy, by simp⟩
  have hzy : z.number = y.number := by simpa using List.find?_some hz
  rw [hz, List.inj_on_of_nodup_map h.numbers (List.mem_of_find?_eq_some hz) hy hzy]

theorem liveSubject_eq_some_iff {s : State} {y : Nat × Nat} {x : Subject} :
    liveSubject s y = some x ↔ ∃ it, findItem s y.1 y.2 = some it ∧ it.live = true ∧ it.subject = x := by
  simp [liveSubject, Option.filter_eq_some_iff, and_assoc]

/-- A live item of the book has a place in it. -/
theorem liveSubject_of_mem {s : State} (h : BookWf s) {it : ItemRec} (hi : it ∈ openItems s) (hl : it.live = true) :
    ∃ y, liveSubject s y = some it.subject := by
  obtain ⟨o, ho, hi⟩ := List.mem_flatMap.mp hi
  obtain ⟨k, hk, rfl⟩ := List.getElem_of_mem hi
  refine ⟨(o.number, k + 1), liveSubject_eq_some_iff.mpr ⟨_, ?_, hl, rfl⟩⟩
  rw [findItem_of_findOrder (findOrder_of_mem h ho)]
  simp [OrderRec.item, hk]

/-- The places of an order's live items on a subject. -/
def livePlaces (x : Subject) (o : OrderRec) : List Nat :=
  ((List.range o.items.length).map (· + 1)).filter fun i => (o.item i).any fun it => it.live && decide (it.subject = x)

/-- What `filter` and then `map` keep, `filterMap` gives. -/
theorem filterMap_if {α β : Type} (p : α → Bool) (f : α → β) (l : List α) :
    (l.filterMap fun a => if p a then some (f a) else none) = (l.filter p).map f := by
  induction l with
  | nil => rfl
  | cons a l ih => cases h : p a <;> simp [h, ih]

theorem liveItemsOn_eq (s : State) (x : Subject) :
    liveItemsOn s x = s.orders.flatMap fun o => (livePlaces x o).map fun i => (o.number, i) := by
  unfold liveItemsOn livePlaces
  congr 1; funext o
  exact filterMap_if _ _ _

theorem mem_livePlaces {x : Subject} {o : OrderRec} {i : Nat} :
    i ∈ livePlaces x o ↔ ∃ it, o.item i = some it ∧ it.live = true ∧ it.subject = x := by
  simp only [livePlaces, List.mem_filter, Option.any_eq_true, Bool.and_eq_true, decide_eq_true_eq,
    and_iff_right_iff_imp]
  rintro ⟨it, hi, -⟩
  unfold OrderRec.item at hi
  split at hi
  · cases hi
  · have := (List.getElem?_eq_some_iff.mp hi).1
    exact List.mem_map.mpr ⟨i - 1, List.mem_range.mpr this, by omega⟩

theorem livePlaces_length (x : Subject) (o : OrderRec) :
    (livePlaces x o).length = o.items.countP fun it => it.live && decide (it.subject = x) := by
  have hitems : (List.range o.items.length).map (fun k => o.items[k]?) = o.items.map some :=
    List.ext_getElem (by simp) fun k h _ => by simp at h; simp [h]
  have hplaces : (fun i => (o.item i).any fun it => it.live && decide (it.subject = x)) ∘ (· + 1)
      = (Option.any fun it => it.live && decide (it.subject = x)) ∘ fun k => o.items[k]? := by
    funext k; simp [OrderRec.item]
  rw [livePlaces, ← List.countP_eq_length_filter, List.countP_map, hplaces, ← List.countP_map, hitems, List.countP_map]
  rfl

/-- The items listed are the live ones on the subject. -/
theorem mem_liveItemsOn {s : State} (h : BookWf s) {x : Subject} {y : Nat × Nat} :
    y ∈ liveItemsOn s x ↔ liveSubject s y = some x := by
  rw [liveItemsOn_eq, liveSubject_eq_some_iff]
  simp only [List.mem_flatMap, List.mem_map, mem_livePlaces]
  constructor
  · rintro ⟨o, ho, i, ⟨it, hi, hit⟩, rfl⟩
    exact ⟨it, (findItem_of_findOrder (findOrder_of_mem h ho)).trans hi, hit⟩
  · rintro ⟨it, hi, hit⟩
    obtain ⟨o, ho, hi⟩ := Option.bind_eq_some_iff.mp hi
    have hn : o.number = y.1 := by simpa using List.find?_some ho
    exact ⟨o, List.mem_of_find?_eq_some ho, y.2, ⟨it, hi, hit⟩, by rw [hn]⟩

/-- None is listed twice. -/
theorem liveItemsOn_nodup {s : State} (h : BookWf s) (x : Subject) : (liveItemsOn s x).Nodup := by
  rw [liveItemsOn_eq, List.nodup_flatMap]
  constructor
  · intro o _
    refine List.Nodup.map (fun i k he => (Prod.mk.inj he).2) ?_
    exact (List.nodup_range.map fun i k he => Nat.succ.inj he).filter _
  · refine (List.pairwise_map.mp h.numbers).imp fun hne y hy hy' => ?_
    obtain ⟨i, -, rfl⟩ := List.mem_map.mp hy
    obtain ⟨k, -, he⟩ := List.mem_map.mp hy'
    exact hne (Prod.mk.inj he).1.symm

/-- They are as many as hold the subject. -/
theorem liveItemsOn_length (s : State) (x : Subject) : (liveItemsOn s x).length = itemHolds s x := by
  rw [liveItemsOn_eq, itemHolds, openItems, List.length_flatMap, List.countP_flatMap]
  congr 1
  exact List.map_congr_left fun o _ => by simp [livePlaces_length]

end Sys2Proof.Machine.CascadeLaws
end

section
/-! The rights of photos: SET-RIGHTS with the embargo re-check, UNBAR-PHOTO and BAR-PHOTO (R35 to R38). -/

namespace Sys2Proof.Machine.RightsLaws
open Sys2Proof Sys2Proof.Machine Sys2Proof.Machine.CascadeLaws

/-! ### Tickets freed (R37) -/

/-- Freeing the tickets on a subject touches neither the book nor the jobs nor a copy. -/
theorem freeTicketsOn_keeps (x : Subject) (s : State) :
    (freeTicketsOn x s).orders = s.orders ∧ (freeTicketsOn x s).slabWait = s.slabWait
      ∧ (freeTicketsOn x s).jobs = s.jobs
      ∧ (freeTicketsOn x s).editions = s.editions ∧ (freeTicketsOn x s).photos = s.photos
      ∧ (freeTicketsOn x s).units.map (·.state) = s.units.map (·.state) := by
  unfold freeTicketsOn
  generalize s.tickets.filter (fun t => decide (t.subject = x)) = l
  induction l generalizing s with
  | nil => simp
  | cons t l ih => simp [ih, freeTicket_states]

/-- No ticket on the subject is left. -/
theorem freeTicketsOn_tickets {x : Subject} {s : State} : ∀ t ∈ (freeTicketsOn x s).tickets, t.subject ≠ x := by
  have hfree : ∀ (l : List Ticket) (s : State) (t : Ticket),
      t ∈ (l.foldl (fun s t => freeTicket t s) s).tickets → t ∈ s.tickets ∧ t ∉ l := by
    intro l
    induction l with
    | nil => simp
    | cons y l ih =>
      intro s t ht
      obtain ⟨hm, hl⟩ := ih (freeTicket y s) t ht
      have hm : t ∈ s.tickets ∧ t.number ≠ y.number := by simpa [freeTicket] using hm
      exact ⟨hm.1, fun h => (List.mem_cons.mp h).elim (fun he => hm.2 (he ▸ rfl)) hl⟩
  intro t ht hx
  obtain ⟨hm, hl⟩ := hfree _ s t ht
  exact hl (List.mem_filter.mpr ⟨hm, by simpa using hx⟩)

/-- A task takes no ticket. -/
theorem tickets_perform (t : Task) (s : State) : (perform t s).1.tickets ⊆ s.tickets := by
  unfold perform
  split
  · cases t with
    | failAtOnce o =>
      simp only [carryOut, failRead, ownerFailed]
      split
      · exact List.Subset.refl _
      · split
        · split
          · simp
          · simp [freeTicket, List.filter_subset_self]
        · simp
        · simp
    | _ => simp [carryOut]
  · exact List.Subset.refl _

theorem tickets_drainTally (l : List Task) (s : State) : (drainTally l s).state.tickets ⊆ s.tickets :=
  drainTally_induction (P := fun t => t.tickets ⊆ s.tickets)
    (fun t u h => List.Subset.trans (tickets_perform t u) h) l s (List.Subset.refl _)

/-! ### The re-check (R36, R152, R159) -/

/-- The places of the items that may leave WAIT-EMBARGO, as the statement names them. -/
theorem freedItems_eq (s : State) (x : OrderRec) (only : Option Nat) :
    freedItems s x only = (List.range x.items.length).filterMap fun k =>
      match x.items[k]? with
      | some it =>
        match it.subject with
        | .photo n =>
          if it.state = .waitEmbargo ∧ (only = none ∨ only = some n)
              ∧ ¬ ∃ p, findPhoto s n = some p ∧ ∃ e, p.embargo = some e ∧ today s < e then some (k + 1) else none
        | .plate _ => none
      | none => none := by
  unfold freedItems
  rw [List.filter_map, ← filterMap_if]
  congr 1; funext k
  simp only [Function.comp, OrderRec.item, Nat.add_one_ne_zero, if_false, Nat.add_sub_cancel]
  cases x.items[k]? with
  | none => rfl
  | some it =>
    cases hs : it.subject with
    | plate r => simp [hs]
    | photo n =>
      have honly : (only.all fun m => decide (m = n)) = true ↔ only = none ∨ only = some n := by
        cases only <;> simp
      have hday : (!((findPhoto s n).any fun p => p.embargoed (today s))) = true
          ↔ ¬ ∃ p, findPhoto s n = some p ∧ ∃ e, p.embargo = some e ∧ today s < e := by
        rw [Bool.not_eq_true', ← Bool.not_eq_true]
        simp [Option.any_eq_true, Photo.embargoed]
      simp only [Option.any_some, hs, Bool.and_eq_true, decide_eq_true_eq, honly, hday]

/-- The re-check gives an order's items one task, and an order with none no task. -/
theorem recheck_eq (s : State) (only : Option Nat) :
    recheck s only = s.orders.filterMap fun x =>
      if freedItems s x only = [] then none else some (.returnItems x.number (freedItems s x only)) := by
  unfold recheck
  congr 1; funext x
  cases freedItems s x only <;> rfl

/-- Items that all wait for their photo's day take their turn after the active item, or make a turn list. -/
theorem perform_returnItems {o : Nat} {l : List Nat} {x : OrderRec} {s : State} (hx : findOrder s o = some x)
    (hnd : l.Nodup) (hl : ∀ i ∈ l, (findItem s o i).map (·.state) = some .waitEmbargo) :
    perform (.returnItems o l) s =
      (modifyOrder o (fun y => { y with turn := match x.turn with
          | [] => l
          | a :: rest => a :: (l ++ rest) })
        (l.foldl (fun s i => modifyItem o i (fun it => { it with state := .pending, embargoPassed := true }) s) s),
        if x.turn = [] then [.activate o] else []) := by
  have hw : wanted s (.returnItems o l) = true := by
    simpa [wanted, hnd, Option.any_eq_true] using hl
  rw [perform_wanted hw, carryOut, returnToTurn, hx]
  dsimp only
  cases x.turn with
  | nil => rfl
  | cons a rest => rfl

/-! ### BAR-PHOTO (R37) -/

/-- The state in which BAR-PHOTO cancels the items: the request taken, the tickets freed. -/
theorem bookWf_of_work {s : State} (h : WorkWf s) (x : Subject) : BookWf (freeTicketsOn x (taken s)) := by
  obtain ⟨-, -, -, -, -, -, -, hwaits, -, -, -, -, ⟨hnumbers, -⟩, -⟩ := h
  obtain ⟨ho, hs, hj, -⟩ := freeTicketsOn_keeps x (taken s)
  have hlists : ListsAgree (taken s) :=
    (goesOn_shrink (listsAgree_of_waitsWf hwaits) (by simp) (by simp) (.of_eq (by simp))).lists
  exact ⟨(goesOn_shrink hlists ho (hs ▸ .refl _) (.of_eq hj)).lists, by simpa [ho] using hnumbers⟩

theorem allReadable_freeTicketsOn {s : State} (h : AllReadable s) (x : Subject) :
    AllReadable (freeTicketsOn x (taken s)) := by
  obtain ⟨-, -, hj, he, hp, hu⟩ := freeTicketsOn_keeps x (taken s)
  exact allReadable_of_same h (by simp [he]) (by simp [hp]) (by simp [hu]) (JobsShrink.of_eq (by simp [hj])).stored

theorem itemHolds_freeTicketsOn (x y : Subject) (s : State) :
    itemHolds (freeTicketsOn x (taken s)) y = itemHolds s y := by
  simp [itemHolds, openItems, freeTicketsOn_keeps]

/-- The cancellations that BAR-PHOTO makes. -/
abbrev barCancels (u : State) (x : Subject) : List Task :=
  (liveItemsOn u x).map fun y => .cancel y.1 y.2 .barred

/-- Once the items on a subject are cancelled none of them is live. -/
theorem no_live_item_left {u : State} (h : BookWf u) {x : Subject} {it : ItemRec}
    (hi : it ∈ openItems (drainTally (barCancels u x) u).state) (hx : it.subject = x) : it.live = false := by
  by_contra hl
  obtain ⟨y, hy⟩ := liveSubject_of_mem (bookWf_drainTally h _) hi (by simpa using hl)
  have hu : liveSubject u y = some x := by
    obtain hn | he := liveSubject_drainTally h (barCancels u x) y
    · rw [hn] at hy; cases hy
    · rw [← he, hy, hx]
  have htask : .cancel y.1 y.2 .barred ∈ barCancels u x := List.mem_map.mpr ⟨y, (mem_liveItemsOn h).mpr hu, rfl⟩
  exact absurd (hy.symm.trans (drainTally_cancels h htask)) (by simp)

/-- The request counts no more items than held the subject, and all of them where every unit can be read. -/
theorem cancelled_le_itemHolds (u : State) (x : Subject) :
    (drainTally (barCancels u x) u).cancelled ≤ itemHolds u x := by
  rw [← liveItemsOn_length, ← List.length_map (as := liveItemsOn u x) fun y => Task.cancel y.1 y.2 .barred]
  refine drainTally_cancelled_le (fun t ht => ?_) u
  obtain ⟨y, -, rfl⟩ := List.mem_map.mp ht
  exact ⟨_, _, _, rfl⟩

theorem cancelled_eq_itemHolds {u : State} (hread : AllReadable u) (h : BookWf u) (x : Subject) :
    (drainTally (barCancels u x) u).cancelled = itemHolds u x := by
  rw [drainTally_cancelled_eq hread h (liveItemsOn_nodup h x) (fun y hy => by simp [(mem_liveItemsOn h).mp hy]) rfl,
    liveItemsOn_length]

/-- The photo found after a change that keeps its number. -/
theorem findPhoto_modifyPhoto {n : Nat} {f : Photo → Photo} (hf : ∀ p, (f p).number = p.number) {s : State} {p : Photo}
    (h : findPhoto s n = some p) : findPhoto (modifyPhoto n f s) n = some (f p) := by
  have hn : p.number = n := by simpa using List.find?_some h
  have hpred : ((fun p : Photo => decide (p.number = n)) ∘ fun p => if p.number = n then f p else p)
      = fun p => decide (p.number = n) := by
    funext p; by_cases hp : p.number = n <;> simp [hp, hf]
  unfold findPhoto at h ⊢
  rw [modifyPhoto_writes, List.find?_map, hpred, h]
  simp [hn]

theorem findPhoto_congr {s t : State} (h : t.photos = s.photos) (n : Nat) : findPhoto t n = findPhoto s n := by
  unfold findPhoto; rw [h]

theorem findPhoto_raise (k : NoticeKind) (x : NoticeSubject) (d : List Wire) (s : State) (n : Nat) :
    findPhoto (raise k x d s) n = findPhoto s n := findPhoto_congr (by simp) n

/-- Settles O24: SET-RIGHTS and UNBAR-PHOTO by their checks, BAR-PHOTO by what its cancellations lead to, and the
re-check by what it names and what a returned item does. -/
theorem rightsAndBars : Obligations.RightsAndBars := by
  refine ⟨fun tag s => ⟨fun r h => ends_request h ?_, fun n h => ends_request h ?_⟩, fun tag n s h => ⟨fun hp => ?_,
    fun p hp => ?_⟩, fun s only => ?_, fun o l x s hx hnd hl => perform_returnItems hx hnd hl⟩
  case refine_1 =>
    unfold setRights
    have hfind : findPhoto (taken s) r.photo = findPhoto s r.photo := rfl
    cases hp : findPhoto s r.photo with
    | none => exact ends_missing (hfind.trans hp)
    | some p =>
      refine ends_found (hfind.trans hp) ?_
      refine ends_ensure (by simp [rightsInRange]) fun _ => ?_
      rfl
  case refine_2 =>
    unfold unbarPhoto
    have hfind : findPhoto (taken s) n = findPhoto s n := rfl
    cases hp : findPhoto s n with
    | none => exact ends_missing (hfind.trans hp)
    | some p => exact ends_found (hfind.trans hp) rfl
  case refine_3 => exact ends_request h (ends_missing hp)
  case refine_4 =>
    intro u w counts
    have hphoto : findPhoto w.state n = some p := by
      refine (findPhoto_congr ?_ n).trans hp
      simp [w, drain_is_tally, u, freeTicketsOn_keeps]
    have hbarred := findPhoto_modifyPhoto (f := fun y => { y with barred := true }) (fun _ => rfl) hphoto
    refine ⟨_, { p with barred := true }, ends_request h (ends_found hp rfl), rfl,
      (findPhoto_raise _ _ _ _ n).trans hbarred, rfl, fun x hx => ?_, fun _ hwork => ?_⟩
    · exact freeTicketsOn_tickets x (tickets_drainTally _ u (by simpa using hx))
    · have hbook := bookWf_of_work hwork (.photo n)
      have hholds : itemHolds u (.photo n) = itemHolds s (.photo n) := itemHolds_freeTicketsOn _ _ s
      refine ⟨fun it hit hx => ?_, hholds ▸ cancelled_le_itemHolds u _, fun hread => ?_⟩
      · exact no_live_item_left hbook (by simpa [openItems] using hit) hx
      · exact hholds ▸ cancelled_eq_itemHolds (allReadable_freeTicketsOn hread _) hbook _
  case refine_5 =>
    rw [recheck_eq]
    congr 1; funext x
    exact congrArg (fun l => if l = [] then none else some (Task.returnItems x.number l)) (freedItems_eq s x only)

end Sys2Proof.Machine.RightsLaws
end

section
/-! What a request's own rule leaves, check by check, and what each command does to the receive slots (R43, R44, R50 to R53,
R55, R56). -/

namespace Sys2Proof.Machine.SlotLaws
open Sys2Proof Sys2Proof.Machine

/-! ### What a request's own rule leaves -/

/-- Where a request's own rule does not refuse, the state it leaves has the property. -/
def Leaves (P : State → Prop) : Checked → Prop
  | .error _ => True
  | .ok x => P x.1

theorem Leaves.mono {P Q : State → Prop} (h : ∀ t, P t → Q t) {x : Checked} (hx : Leaves P x) : Leaves Q x := by
  cases x with
  | error b => trivial
  | ok y => exact h _ hx

theorem leaves_error {P : State → Prop} (b : ReplyBody) : Leaves P (.error b) := trivial

theorem leaves_refuse {P : State → Prop} (r : Reason) (l : List Wire) : Leaves P (refuse r l) := trivial

theorem leaves_done {P : State → Prop} {t : State} {l : List Wire} (h : P t) : Leaves P (done t l) := h

/-- A check or a lookup at the front of a rule: it refuses, or the rest decides. -/
theorem leaves_bind {P : State → Prop} {α : Type} {x : Except ReplyBody α} {f : α → Checked}
    (h : ∀ a, Leaves P (f a)) : Leaves P (x >>= f) := by
  cases x with
  | error b => exact leaves_error b
  | ok a => exact h a

/-- The reply changes nothing that the property reads. -/
theorem leaves_answer {P : State → Prop} (hsend : ∀ f u, P u → P (send f u)) {tag : Nat} {s : State} {x : Checked}
    (hs : P s) (hx : Leaves P x) : P (answer tag s x) := by
  cases x with
  | error b => exact hsend _ _ hs
  | ok y =>
    obtain ⟨t, b⟩ := y
    cases b with
    | none => exact hx
    | some b => exact hsend _ _ hx

/-! ### Slots -/

theorem slotsWf_of_same {s t : State} (h : SlotsWf s) (ht : t.slots = s.slots) : SlotsWf t :=
  fun x hx => h x (ht ▸ hx)

theorem slotsWf_slotAt {s : State} (h : SlotsWf s) {k : Nat} {x : Slot} (hx : slotAt s k = some x) : x.Wf := by
  exact h _ (List.mem_of_getElem? (Option.join_eq_some_iff.mp hx)) x rfl

/-- A slot is freed, or given a content that is well formed. -/
theorem slotsWf_setSlot {s : State} (h : SlotsWf s) (k : Nat) {x : Option Slot} (hx : ∀ y, x = some y → y.Wf) :
    SlotsWf (setSlot k x s) := by
  intro z hz
  obtain hz | rfl := List.mem_or_eq_of_mem_set hz
  · exact h z hz
  · exact hx

theorem slotsWf_releaseSlot {s : State} (h : SlotsWf s) (k : Nat) : SlotsWf (releaseSlot k s) := by
  unfold releaseSlot
  split
  · exact h
  · exact slotsWf_setSlot h k nofun

theorem slotsWf_releaseSlotOf {s : State} (h : SlotsWf s) (x : Subject) : SlotsWf (releaseSlotOf x s) := by
  unfold releaseSlotOf
  split
  · exact h
  · exact slotsWf_releaseSlot h _

/-- A slot is bound with nothing kept and its CRC at the start (R44). -/
theorem slotsWf_bindSlot {s : State} (h : SlotsWf s) (k : Nat) (x : Subject) (kind : SlotKind) (size : Nat)
    (check : Check) : SlotsWf (bindSlot k x kind size check s) :=
  slotsWf_setSlot (slotsWf_of_same h rfl) k fun _ hy => Option.some.inj hy ▸ ⟨rfl, Nat.zero_le _⟩

/-- A data frame keeps no more than fits, and the CRC takes what is kept (R50, R51). -/
theorem slot_wf_take {x : Slot} (h : x.Wf) (now : Tick) (offset : Nat) (data : List Byte) :
    (x.take now offset data).Wf := by
  obtain ⟨hcrc, hlen⟩ := h
  unfold Slot.take
  split
  · exact ⟨hcrc, hlen⟩
  · split
    · exact ⟨hcrc, hlen⟩
    · next hoff _ =>
      have hacc : x.accepts offset data = data.take (x.declared - x.kept.length) := if_pos (not_not.mp hoff)
      refine ⟨?_, ?_⟩
      · simp [hcrc, crc32Run]
      · simp only [hacc, List.length_append, List.length_take]
        omega

/-! ### The link: frames that arrive -/

theorem slotsWf_receiveData {s : State} (h : SlotsWf s) (tag : Nat) (body : List Byte) :
    SlotsWf (receiveData tag body s) := by
  unfold receiveData
  split
  · exact h
  · split
    · exact h
    · next x hx =>
      have hset := slotsWf_setSlot h tag (x := some (x.take s.timeBase (beNat (body.take 4)) (body.drop 4)))
        fun y hy => Option.some.inj hy ▸ slot_wf_take (slotsWf_slotAt h hx) ..
      exact slotsWf_of_same hset (by simp [fillSlot])

theorem slotsWf_handOn {s : State} (h : SlotsWf s) (kind tag code : Nat) (body : List Byte) :
    SlotsWf (handOn kind tag code body s) := by
  unfold handOn
  split
  · split <;> exact h
  · split
    · exact slotsWf_receiveData h tag body
    · exact h

theorem slotsWf_readingByte {s : State} (h : SlotsWf s) (b : List Byte) : SlotsWf (readingByte b s) := by
  unfold readingByte
  dsimp only
  split
  · exact h
  · split
    · unfold frameWhole
      dsimp only
      split
      · exact slotsWf_handOn (s := { s with receiver := .hunting false }) h _ _ _ _
      · exact h
    · exact h

theorem slotsWf_receiveByte {s : State} (h : SlotsWf s) (x : Byte) : SlotsWf (receiveByte s x) := by
  unfold receiveByte
  split
  · split <;> exact h
  · exact h
  · exact slotsWf_readingByte h _

theorem slotsWf_receive {s : State} (h : SlotsWf s) (b : List Byte) : SlotsWf (receive b s) := by
  unfold receive
  induction b generalizing s with
  | nil => exact h
  | cons x b ih => exact ih (slotsWf_receiveByte h x)

end Sys2Proof.Machine.SlotLaws
end

section
/-! What the commands leave of the receive slots (R43): most leave them alone, some free one, bind one or fill one. -/

namespace Sys2Proof.Machine.SlotLaws
open Sys2Proof Sys2Proof.Machine

/-! ### Operations that leave the slots alone -/

@[simp] theorem drainTally_slots (l : List Task) (s : State) : (drainTally l s).state.slots = s.slots := by
  simp [drain_is_tally]

theorem foldl_slots {α : Type} {f : State → α → State} (hf : ∀ s a, (f s a).slots = s.slots) (l : List α) (s : State) :
    (l.foldl f s).slots = s.slots := by
  induction l generalizing s with
  | nil => rfl
  | cons a l ih => exact (ih _).trans (hf s a)

@[simp] theorem freeTicketsOn_slots (x : Subject) (s : State) : (freeTicketsOn x s).slots = s.slots :=
  foldl_slots (fun s t => by simp) _ s

@[simp] theorem suppressJob_slots (r : PlateRef) (s : State) : (suppressJob r s).slots = s.slots := by
  unfold suppressJob
  split <;> simp

@[simp] theorem withdrawFromService_slots (r : PlateRef) (s : State) : (withdrawFromService r s).slots = s.slots := by
  unfold withdrawFromService
  dsimp only
  split <;> simp

@[simp] theorem filePhotoRecord_slots (r : FilePhotoReq) (s : State) : (filePhotoRecord r s).slots = s.slots := by
  unfold filePhotoRecord
  split <;> simp

@[simp] theorem giveBackPhoto_slots (p : Photo) (s : State) : (giveBackPhoto p s).slots = s.slots := by
  unfold giveBackPhoto
  (repeat' split) <;> simp

@[simp] theorem setEntryContent_slots (x : EntrySubject) (st : ContentState) (s : State) :
    (setEntryContent x st s).slots = s.slots := by
  unfold setEntryContent
  split <;> simp

@[simp] theorem endOperation_slots (u : Nat) (s : State) : (endOperation u s).slots = s.slots := by simp [endOperation]

@[simp] theorem clearFailures_slots (u : Nat) (s : State) : (clearFailures u s).slots = s.slots := by
  simp [clearFailures]

@[simp] theorem countFailure_slots (u kind cause : Nat) (s : State) : (countFailure u kind cause s).slots = s.slots := by
  unfold countFailure countFree
  dsimp only
  (repeat' split) <;> simp

@[simp] theorem raiseStored_slots (x : EntrySubject) (u n : Nat) (s : State) : (raiseStored x u n s).slots = s.slots := by
  unfold raiseStored
  split <;> simp

@[simp] theorem raiseFailed_slots (x : EntrySubject) (l : List Nat) (c : Nat) (s : State) :
    (raiseFailed x l c s).slots = s.slots := by
  unfold raiseFailed
  split <;> simp

@[simp] theorem setEditionState_slots (d i : Nat) (st : EditionState) (s : State) :
    (setEditionState d i st s).slots = s.slots := by simp [setEditionState]

@[simp] theorem closeNow_slots (e : Edition) (s : State) : (closeNow e s).slots = s.slots := by simp [closeNow]

@[simp] theorem closeIfStored_slots (x : EntrySubject) (s : State) : (closeIfStored x s).slots = s.slots := by
  unfold closeIfStored
  (repeat' split) <;> simp

@[simp] theorem closeFailedBy_slots (x : EntrySubject) (s : State) : (closeFailedBy x s).slots = s.slots := by
  unfold closeFailedBy
  (repeat' split) <;> simp

@[simp] theorem storeSubject_slots (x : EntrySubject) (l : Location) (s : State) :
    (storeSubject x l s).slots = s.slots := by
  cases x <;> simp [storeSubject]

@[simp] theorem attemptDone_slots (u start : Nat) (e : Entry) (s : State) : (attemptDone u start e s).slots = s.slots := by
  simp [attemptDone, writeDone]

@[simp] theorem attemptFailed_slots (u : Nat) (e : Entry) (cause : Nat) (s : State) :
    (attemptFailed u e cause s).slots = s.slots := by
  unfold attemptFailed
  dsimp only
  split <;> simp [commitFailed]

@[simp] theorem sendRead_slots (u : Nat) (r : Read) (n : Nat) (s : State) : (sendRead u r n s).slots = s.slots := by
  simp [sendRead]

@[simp] theorem tryFailed_slots (u : Nat) (r : Read) (n cause : Nat) (s : State) :
    (tryFailed u r n cause s).slots = s.slots := by
  unfold tryFailed readFailed
  dsimp only
  split <;> simp

@[simp] theorem landed_slots (r : Read) (b : List Byte) (s : State) : (landed r b s).slots = s.slots := by
  unfold landed
  dsimp only
  (repeat' split) <;> simp

@[simp] theorem readAnswered_slots (u : Nat) (r : Read) (n : Nat) (a : Option (List Byte)) (s : State) :
    (readAnswered u r n a s).slots = s.slots := by
  unfold readAnswered
  dsimp only
  (repeat' split) <;> simp

@[simp] theorem orphanEnded_slots (u : Nat) (ok : Bool) (s : State) : (orphanEnded u ok s).slots = s.slots := by
  cases ok <;> simp [orphanEnded]

@[simp] theorem operationExpired_slots (u : Nat) (w : Work) (s : State) : (operationExpired u w s).slots = s.slots := by
  unfold operationExpired
  dsimp only
  (repeat' split) <;> simp

@[simp] theorem beginAttempt_slots (u : Nat) (e : Entry) (s : State) : (beginAttempt u e s).slots = s.slots := by
  simp [beginAttempt]

@[simp] theorem markReading_slots (o : Owner) (s : State) : (markReading o s).slots = s.slots := by
  cases o <;> simp [markReading]

@[simp] theorem endRepair_slots (j : Job) (s : State) : (endRepair j s).slots = s.slots := by simp [endRepair]

@[simp] theorem writeTile_slots (j : Job) (n : Nat) (s : State) : (writeTile j n s).slots = s.slots := by simp [writeTile]

@[simp] theorem endStream_slots (l : List OutFrame) (s : State) : (endStream l s).slots = s.slots := rfl

@[simp] theorem collectItem_slots (o i : Nat) (s : State) : (collectItem o i s).slots = s.slots := by
  unfold collectItem
  split <;> simp

@[simp] theorem tick_slots (s : State) : (tick s).slots = s.slots := by
  have hbase : (advanceBase s).slots = s.slots := by
    unfold advanceBase
    dsimp only
    split <;> simp
  unfold tick advanceDate
  dsimp only
  (repeat' split) <;> simp [hbase]

@[simp] theorem startIfFree_slots (s : State) : (startIfFree s).slots = s.slots := by
  unfold startIfFree
  split <;> rfl

@[simp] theorem raiseStarted_slots (s : State) : (raiseStarted s).slots = s.slots := by simp [raiseStarted]

@[simp] theorem settleUnit_slots (u : Nat) (x : UnitRec) (s : State) : (settleUnit u x s).slots = s.slots := by
  unfold settleUnit readyIfSettled
  split <;> simp

/-! ### The requests -/

/-- A request that is not its own rule's to act on changes no slot; else its rule decides. -/
theorem slotsWf_request {α : Type} {c : Instr} {r : Taken α} {act : α → State → Checked} {s : State} (h : SlotsWf s)
    (hact : ∀ f t, SlotsWf t → Leaves SlotsWf (act f t)) : SlotsWf (request c r act s) := by
  unfold request takeRequest
  split
  · exact h
  · next t ht =>
    have htaken : SlotsWf t := by
      split at ht
      · exact Option.some.inj ht ▸ h
      · cases ht
    split
    · exact htaken
    · split
      · exact htaken
      · next f _ => exact leaves_answer (fun _ _ h => h) htaken (hact f t htaken)

/-- The rule leaves the slots as they were. -/
abbrev KeepsSlots {α : Type} (act : α → State → Checked) : Prop := ∀ f s, Leaves (fun t => t.slots = s.slots) (act f s)

theorem slotsWf_request_same {α : Type} {c : Instr} {r : Taken α} {act : α → State → Checked} {s : State}
    (h : SlotsWf s) (hact : KeepsSlots act) : SlotsWf (request c r act s) :=
  slotsWf_request h fun f t ht => (hact f t).mono fun _ hu => slotsWf_of_same ht hu

theorem openEdition_keepsSlots : KeepsSlots openEdition := fun _ _ =>
  leaves_bind fun _ => leaves_bind fun _ => leaves_bind fun _ => leaves_bind fun _ => leaves_bind fun _ =>
    leaves_bind fun _ => leaves_done rfl

theorem dropEdition_keepsSlots : KeepsSlots dropEdition := fun _ _ =>
  leaves_bind fun _ => leaves_bind fun _ => leaves_done rfl

theorem editionInfo_keepsSlots : KeepsSlots editionInfo := fun _ _ => leaves_bind fun _ => leaves_done rfl

theorem pageInfo_keepsSlots : KeepsSlots pageInfo := fun _ _ =>
  leaves_bind fun _ => leaves_bind fun _ => leaves_done rfl

theorem plateInfo_keepsSlots : KeepsSlots plateInfo := fun _ _ => leaves_bind fun _ => leaves_done rfl

theorem armSuppression_keepsSlots : KeepsSlots armSuppression := fun _ _ =>
  leaves_bind fun _ => leaves_bind fun _ => leaves_bind fun _ => leaves_bind fun _ => leaves_done rfl

theorem suppress_keepsSlots (a : Option Arm) : KeepsSlots (suppress a) := fun _ _ =>
  leaves_bind fun _ => leaves_bind fun _ => leaves_done (by simp [suppressPlate])

theorem setRights_keepsSlots : KeepsSlots setRights := fun _ _ =>
  leaves_bind fun _ => leaves_bind fun _ => leaves_done (by simp)

theorem barPhoto_keepsSlots : KeepsSlots barPhoto := fun _ _ => leaves_bind fun _ => leaves_done (by simp)

theorem unbarPhoto_keepsSlots : KeepsSlots unbarPhoto := fun _ _ => leaves_bind fun _ => leaves_done rfl

theorem removePhoto_keepsSlots : KeepsSlots removePhoto := fun _ _ =>
  leaves_bind fun _ => leaves_bind fun _ => leaves_bind fun _ => leaves_bind fun _ => leaves_done (by simp)

theorem photoInfo_keepsSlots : KeepsSlots photoInfo := fun _ _ => leaves_bind fun _ => leaves_done rfl

theorem closeEdition_keepsSlots : KeepsSlots closeEdition := fun _ _ =>
  leaves_bind fun _ => leaves_bind fun _ => leaves_bind fun _ => by
    (repeat' split) <;> simp [Leaves]

theorem unitState_keepsSlots : KeepsSlots unitState := fun _ _ =>
  leaves_bind fun _ => leaves_bind fun _ => leaves_bind fun _ => leaves_done rfl

theorem changeHold_keepsSlots (on : Bool) : KeepsSlots (changeHold on) := fun _ _ => leaves_bind fun _ => leaves_done rfl

theorem setCommitLimit_keepsSlots : KeepsSlots setCommitLimit := fun _ _ => leaves_bind fun _ => leaves_done rfl

theorem fetchContent_keepsSlots (tag : Nat) : KeepsSlots (fetchContent tag) := fun _ _ =>
  leaves_bind fun _ => leaves_bind fun _ => leaves_bind fun _ => by
    unfold fetchTicket
    (repeat' split) <;> simp [Leaves, deliverTicket, createTicket]

theorem restorePlate_keepsSlots : KeepsSlots restorePlate := fun _ _ =>
  leaves_bind fun _ => leaves_bind fun _ => leaves_bind fun _ => leaves_bind fun _ => leaves_bind fun _ =>
    leaves_bind fun _ => by
      (repeat' split) <;> simp [Leaves, joinJob, createJob, addJob]

theorem jobInfo_keepsSlots : KeepsSlots jobInfo := fun _ _ => by
  unfold jobInfo
  (repeat' split) <;> simp [Leaves]

theorem cancelJob_keepsSlots : KeepsSlots cancelJob := fun _ _ =>
  leaves_bind fun _ => leaves_bind fun _ => leaves_bind fun _ => leaves_done (by simp)

theorem setProfile_keepsSlots : KeepsSlots setProfile := fun _ _ =>
  leaves_bind fun _ => leaves_bind fun _ => leaves_bind fun _ => leaves_done rfl

theorem setTone_keepsSlots : KeepsSlots setTone := fun _ _ => leaves_bind fun _ => leaves_bind fun _ => leaves_done rfl

theorem placeOrder_keepsSlots : KeepsSlots placeOrder := fun _ _ =>
  leaves_bind fun _ => leaves_bind fun _ => leaves_bind fun _ => leaves_bind fun _ => leaves_bind fun _ =>
    leaves_bind fun _ => leaves_bind fun _ => by
      dsimp only
      split <;> simp [Leaves, acceptOrder]

theorem orderInfo_keepsSlots : KeepsSlots orderInfo := fun n _ => by
  cases n with
  | none => exact leaves_done rfl
  | some n => exact leaves_bind fun _ => leaves_bind fun _ => leaves_done rfl

theorem collect_keepsSlots (tag : Nat) : KeepsSlots (collect tag) := fun _ _ => by
  unfold collect
  refine leaves_bind fun _ => leaves_bind fun _ => leaves_bind fun x => ?_
  cases x.state with
  | ready t => simp [Leaves, deliverItem]
  | _ => trivial

theorem cancelOrder_keepsSlots : KeepsSlots cancelOrder := fun _ _ =>
  leaves_bind fun _ => leaves_bind fun _ => leaves_done (by simp)

theorem setTariff_keepsSlots : KeepsSlots setTariff := fun _ _ => leaves_bind fun _ => leaves_done rfl

theorem openAccount_keepsSlots : KeepsSlots openAccount := fun _ _ =>
  leaves_bind fun _ => leaves_bind fun _ => leaves_bind fun _ => leaves_done rfl

theorem creditAccount_keepsSlots : KeepsSlots creditAccount := fun _ _ =>
  leaves_bind fun _ => leaves_bind fun _ => leaves_bind fun _ => leaves_bind fun _ => leaves_done rfl

theorem limitAccount_keepsSlots : KeepsSlots limitAccount := fun _ _ =>
  leaves_bind fun _ => leaves_bind fun _ => leaves_bind fun _ => leaves_bind fun _ => leaves_done rfl

theorem setAccountState_keepsSlots : KeepsSlots setAccountState := fun _ _ =>
  leaves_bind fun _ => leaves_bind fun _ => leaves_bind fun _ => leaves_done rfl

theorem accountInfo_keepsSlots : KeepsSlots accountInfo := fun _ _ =>
  leaves_bind fun _ => leaves_bind fun _ => leaves_done rfl

theorem setHolder_keepsSlots : KeepsSlots setHolder := fun _ _ =>
  leaves_bind fun _ => leaves_bind fun _ => leaves_done rfl

theorem payHolder_keepsSlots : KeepsSlots payHolder := fun _ _ =>
  leaves_bind fun _ => leaves_bind fun _ => leaves_bind fun _ => leaves_done rfl

theorem revenueInfo_keepsSlots : KeepsSlots revenueInfo := fun n _ => by
  cases n with
  | none => exact leaves_done rfl
  | some n => exact leaves_bind fun _ => leaves_bind fun _ => leaves_done rfl

theorem takeNotices_keepsSlots : KeepsSlots takeNotices := fun _ _ => by
  unfold takeNotices
  exact leaves_done (by simp)

theorem setFilter_keepsSlots : KeepsSlots setFilter := fun _ _ =>
  leaves_bind fun _ => leaves_bind fun _ => leaves_bind fun _ => leaves_bind fun _ => leaves_bind fun _ =>
    leaves_done rfl

theorem setDate_keepsSlots : KeepsSlots setDate := fun _ _ => leaves_bind fun _ => leaves_done (by simp)

/-! ### The requests that bind or free a slot -/

theorem filePhoto_slotsWf (r : FilePhotoReq) (s : State) (h : SlotsWf s) : Leaves SlotsWf (filePhoto r s) :=
  leaves_bind fun _ => leaves_bind fun _ => leaves_bind fun _ => leaves_bind fun _ =>
    leaves_done (slotsWf_bindSlot (slotsWf_of_same h (by simp)) _ _ _ _ _)

theorem deposit_slotsWf (r : DepositReq) (s : State) (h : SlotsWf s) : Leaves SlotsWf (deposit r s) :=
  leaves_bind fun _ => leaves_bind fun _ => leaves_bind fun _ => leaves_bind fun _ => leaves_bind fun _ =>
    leaves_bind fun _ => leaves_bind fun _ => leaves_done (slotsWf_bindSlot (slotsWf_of_same h (by simp)) _ _ _ _ _)

theorem redeposit_slotsWf (r : RedepositReq) (s : State) (h : SlotsWf s) : Leaves SlotsWf (redeposit r s) :=
  leaves_bind fun _ => leaves_bind fun _ => leaves_bind fun _ => leaves_bind fun _ => leaves_bind fun _ =>
    leaves_bind fun _ => leaves_bind fun _ =>
      leaves_done (slotsWf_bindSlot (slotsWf_of_same h (by simp [replaceUses])) _ _ _ _ _)

theorem depositEnd_slotsWf (k : Nat) (s : State) (h : SlotsWf s) : Leaves SlotsWf (depositEnd k s) :=
  leaves_bind fun _ => leaves_bind fun _ => by
    split
    · exact leaves_done (slotsWf_of_same (slotsWf_setSlot h k (x := none) nofun) (by simp [queueSlot]))
    · exact leaves_done (slotsWf_of_same (slotsWf_releaseSlot h k) (by simp))

theorem slotsWf_removePlate {s : State} (h : SlotsWf s) (r : PlateRef) (p : Plate) : SlotsWf (removePlate r p s) := by
  refine slotsWf_of_same (s := giveBackPlate r p s) ?_ (by simp [removePlate])
  unfold giveBackPlate
  dsimp only
  split
  · exact slotsWf_releaseSlotOf h _
  · exact slotsWf_of_same h (by simp)
  · exact slotsWf_of_same h (by (repeat' split) <;> simp)
  · exact h

theorem withdrawPlate_slotsWf (r : PlateReq) (s : State) (h : SlotsWf s) : Leaves SlotsWf (withdrawPlate r s) :=
  leaves_bind fun x => leaves_bind fun _ => leaves_bind fun _ => leaves_bind fun _ => leaves_bind fun _ =>
    leaves_done (slotsWf_of_same (slotsWf_removePlate h x.ref x.plate) (by simp))

/-- A stalled deposit's slot is freed, with its plate or alone (R53). -/
theorem slotsWf_stallRecord {s : State} (h : SlotsWf s) (k : Nat) (x : Slot) : SlotsWf (stallRecord k x s).1 := by
  have hfail : SlotsWf (setContent x.record .failed (releaseSlot k s)) :=
    slotsWf_of_same (slotsWf_releaseSlot h k) (by simp)
  unfold stallRecord
  split
  · split
    · split
      · exact slotsWf_removePlate h _ _
      · exact hfail
    · exact hfail
  · exact hfail

/-- With every slot FREE there is nothing to say (R216). -/
theorem slotsWf_allFree {t : State} (h : t.slots = List.replicate 4 none) : SlotsWf t := by
  intro x hx y hy
  rw [h] at hx
  simp_all

end Sys2Proof.Machine.SlotLaws
end

section
/-! Every command keeps the slots well formed (R43, R50, R52). -/

namespace Sys2Proof.Machine.SlotLaws
open Sys2Proof Sys2Proof.Machine

/-! ### The commands one by one -/

/-- The command's outcome is a state whose slots are well formed. -/
abbrev EndsSlotsWf (x : Answered) : Prop := ∃ t, x = .next t ∧ SlotsWf t

theorem ends_slotsWf {t : State} (h : SlotsWf t) : EndsSlotsWf (.next t) := ⟨t, rfl, h⟩

theorem ends_same {s t : State} (h : SlotsWf s) (ht : t.slots = s.slots) : EndsSlotsWf (.next t) :=
  ends_slotsWf (slotsWf_of_same h ht)

theorem ends_act {α : Type} {c : Instr} {r : Taken α} {act : α → State → Checked} {s : State}
    (h : SlotsWf s) (hact : KeepsSlots act) : EndsSlotsWf (.next (request c r act s)) :=
  ends_slotsWf (slotsWf_request_same h hact)

theorem status_slotsWf (r : Taken Unit) {s : State} (h : SlotsWf s) : EndsSlotsWf (execStatus r s) := by
  refine ends_same h ?_
  unfold takeRequest
  split
  · rfl
  · next t ht =>
    have htaken : t.slots = s.slots := by
      split at ht
      · exact Option.some.inj ht ▸ rfl
      · cases ht
    split <;> exact htaken

theorem unknownRequest_slotsWf (tag code : Nat) {s : State} (h : SlotsWf s) :
    EndsSlotsWf (execUnknownRequest tag code s) := by
  unfold execUnknownRequest
  split
  · exact ends_slotsWf h
  · exact ends_act h fun _ _ => leaves_refuse ..

theorem stallTimerExpiry_slotsWf (k : Nat) {s : State} (h : SlotsWf s) : EndsSlotsWf (execStallTimerExpiry k s) := by
  refine ends_slotsWf ?_
  split
  · exact h
  · next x _ =>
    split
    · exact slotsWf_of_same (slotsWf_stallRecord h k x) (by simp)
    · exact h

theorem ticketDeliveryEnd_slotsWf {s : State} (h : SlotsWf s) : EndsSlotsWf (execTicketDeliveryEnd s) := by
  refine ends_same h ?_
  split
  · dsimp only
    split <;> simp
  · rfl

theorem itemDeliveryEnd_slotsWf {s : State} (h : SlotsWf s) : EndsSlotsWf (execItemDeliveryEnd s) := by
  refine ends_same h ?_
  split <;> simp

theorem ticketCollectExpiry_slotsWf (n : Nat) {s : State} (h : SlotsWf s) :
    EndsSlotsWf (execTicketCollectExpiry n s) := by
  refine ends_same h ?_
  (repeat' split) <;> simp

theorem itemCollectExpiry_slotsWf (o i : Nat) {s : State} (h : SlotsWf s) :
    EndsSlotsWf (execItemCollectExpiry o i s) := by
  refine ends_same h ?_
  (repeat' split) <;> simp

theorem closeTimerExpiry_slotsWf (d i : Nat) {s : State} (h : SlotsWf s) :
    EndsSlotsWf (execCloseTimerExpiry d i s) := by
  refine ends_same h ?_
  (repeat' split) <;> simp

theorem armTimerExpiry_slotsWf {s : State} (h : SlotsWf s) : EndsSlotsWf (execArmTimerExpiry s) := by
  refine ends_same h ?_
  (repeat' split) <;> rfl

theorem writeHoldExpiry_slotsWf {s : State} (h : SlotsWf s) : EndsSlotsWf (execWriteHoldExpiry s) := by
  refine ends_same h ?_
  (repeat' split) <;> rfl

theorem operationLimitExpiry_slotsWf (u : Nat) {s : State} (h : SlotsWf s) :
    EndsSlotsWf (execOperationLimitExpiry u s) := by
  refine ends_same h ?_
  (repeat' split) <;> simp

theorem commitGrant_slotsWf (u : Nat) {s : State} (h : SlotsWf s) : EndsSlotsWf (execCommitGrant u s) := by
  refine ends_same h ?_
  split <;> simp

theorem readGrant_slotsWf (u : Nat) {s : State} (h : SlotsWf s) : EndsSlotsWf (execReadGrant u s) := by
  refine ends_same h ?_
  split <;> simp

theorem writeVerifyOk_slotsWf (a : UnitOp) (start : Nat) {s : State} (h : SlotsWf s) :
    EndsSlotsWf (execWriteVerifyOk a start s) := by
  refine ends_same h ?_
  split <;> simp

theorem writeVerifyError_slotsWf (a : UnitOp) {s : State} (h : SlotsWf s) :
    EndsSlotsWf (execWriteVerifyError a s) := by
  refine ends_same h ?_
  split <;> simp

theorem readAnswer_slotsWf (a : UnitOp) (b : Option (List Byte)) {s : State} (h : SlotsWf s) :
    EndsSlotsWf (execReadAnswer a b s) := by
  refine ends_same h ?_
  split <;> simp

theorem tileWritten_slotsWf {s : State} (h : SlotsWf s) : EndsSlotsWf (execTileWritten s) := by
  refine ends_same h ?_
  split
  · rfl
  · split
    · rfl
    · dsimp only
      split <;> simp

theorem supplyLow_slotsWf {s : State} (h : SlotsWf s) : EndsSlotsWf (execSupplyLow s) := by
  refine ends_same h ?_
  split <;> simp

theorem supplyNormal_slotsWf {s : State} (h : SlotsWf s) : EndsSlotsWf (execSupplyNormal s) := by
  refine ends_same h ?_
  split <;> simp

theorem supplyRecovered_slotsWf {s : State} (h : SlotsWf s) : EndsSlotsWf (execSupplyRecovered s) := by
  refine ends_same h ?_
  split <;> simp

theorem lineRelease_slotsWf {s : State} (h : SlotsWf s) : EndsSlotsWf (execLineRelease s) := by
  refine ends_same h ?_
  split <;> simp

theorem lineAssert_slotsWf {s : State} (h : SlotsWf s) : EndsSlotsWf (execLineAssert s) := by
  refine ends_slotsWf ?_
  split
  · exact h
  · exact slotsWf_allFree rfl

theorem linkReset_slotsWf {s : State} (h : SlotsWf s) : EndsSlotsWf (execLinkReset s) := by
  refine ends_slotsWf ?_
  split
  · exact slotsWf_allFree rfl
  · split
    · exact slotsWf_of_same h (by simp)
    · exact h

theorem unitQueryAnswer_slotsWf (u n w : Nat) {s : State} (h : SlotsWf s) :
    EndsSlotsWf (execUnitQueryAnswer u n w s) := by
  refine ends_same h ?_
  split <;> simp

theorem queryLimitExpiry_slotsWf (u : Nat) {s : State} (h : SlotsWf s) : EndsSlotsWf (execQueryLimitExpiry u s) := by
  refine ends_same h ?_
  (repeat' split) <;> simp

/-- No command keeps more in a slot than declared, or lets its CRC part from the bytes kept. -/
theorem slotsWf_exec (c : Instr) {s : State} (h : SlotsWf s) : EndsSlotsWf (exec c s) := by
  cases c with
  | openEdition => exact ends_act h openEdition_keepsSlots
  | dropEdition => exact ends_act h dropEdition_keepsSlots
  | editionInfo => exact ends_act h editionInfo_keepsSlots
  | pageInfo => exact ends_act h pageInfo_keepsSlots
  | plateInfo => exact ends_act h plateInfo_keepsSlots
  | suppressArm => exact ends_act h armSuppression_keepsSlots
  | suppress => exact ends_act h (suppress_keepsSlots _)
  | filePhoto => exact ends_slotsWf (slotsWf_request h filePhoto_slotsWf)
  | setRights => exact ends_act h setRights_keepsSlots
  | barPhoto => exact ends_act h barPhoto_keepsSlots
  | unbarPhoto => exact ends_act h unbarPhoto_keepsSlots
  | removePhoto => exact ends_act h removePhoto_keepsSlots
  | photoInfo => exact ends_act h photoInfo_keepsSlots
  | deposit => exact ends_slotsWf (slotsWf_request h deposit_slotsWf)
  | redeposit => exact ends_slotsWf (slotsWf_request h redeposit_slotsWf)
  | depositEnd => exact ends_slotsWf (slotsWf_request h depositEnd_slotsWf)
  | withdrawPlate => exact ends_slotsWf (slotsWf_request h withdrawPlate_slotsWf)
  | closeEdition => exact ends_act h closeEdition_keepsSlots
  | unitList => exact ends_act h fun _ _ => leaves_done rfl
  | unitState => exact ends_act h unitState_keepsSlots
  | holdClass => exact ends_act h (changeHold_keepsSlots true)
  | releaseClass => exact ends_act h (changeHold_keepsSlots false)
  | setCommitLimit => exact ends_act h setCommitLimit_keepsSlots
  | queueList => exact ends_act h fun _ _ => leaves_done rfl
  | fetch => exact ends_act h (fetchContent_keepsSlots _)
  | ticketList => exact ends_act h fun _ _ => leaves_done rfl
  | restore => exact ends_act h restorePlate_keepsSlots
  | jobInfo => exact ends_act h jobInfo_keepsSlots
  | cancelJob => exact ends_act h cancelJob_keepsSlots
  | setProfile => exact ends_act h setProfile_keepsSlots
  | toneTable => exact ends_act h setTone_keepsSlots
  | placeOrder => exact ends_act h placeOrder_keepsSlots
  | orderInfo => exact ends_act h orderInfo_keepsSlots
  | collect => exact ends_act h (collect_keepsSlots _)
  | cancelOrder => exact ends_act h cancelOrder_keepsSlots
  | setTariff => exact ends_act h setTariff_keepsSlots
  | accountOpen => exact ends_act h openAccount_keepsSlots
  | accountCredit => exact ends_act h creditAccount_keepsSlots
  | accountLimit => exact ends_act h limitAccount_keepsSlots
  | accountState => exact ends_act h setAccountState_keepsSlots
  | accountInfo => exact ends_act h accountInfo_keepsSlots
  | holderSet => exact ends_act h setHolder_keepsSlots
  | holderPayout => exact ends_act h payHolder_keepsSlots
  | revenueInfo => exact ends_act h revenueInfo_keepsSlots
  | status r => exact status_slotsWf r h
  | takeNotices => exact ends_act h takeNotices_keepsSlots
  | setFilter => exact ends_act h setFilter_keepsSlots
  | reset => exact ends_act h fun _ _ => leaves_done rfl
  | setDate => exact ends_act h setDate_keepsSlots
  | unknownRequest tag code => exact unknownRequest_slotsWf tag code h
  | requestFrame => exact ends_slotsWf (slotsWf_receive h _)
  | dataIn => exact ends_slotsWf (slotsWf_receive h _)
  | frameDiscard => exact ends_slotsWf (slotsWf_receive h _)
  | ticketDeliveryEnd => exact ticketDeliveryEnd_slotsWf h
  | itemDeliveryEnd => exact itemDeliveryEnd_slotsWf h
  | stallTimerExpiry k => exact stallTimerExpiry_slotsWf k h
  | ticketCollectExpiry n => exact ticketCollectExpiry_slotsWf n h
  | itemCollectExpiry o i => exact itemCollectExpiry_slotsWf o i h
  | closeTimerExpiry d i => exact closeTimerExpiry_slotsWf d i h
  | armTimerExpiry => exact armTimerExpiry_slotsWf h
  | operationLimitExpiry u => exact operationLimitExpiry_slotsWf u h
  | writeHoldExpiry => exact writeHoldExpiry_slotsWf h
  | timeBaseTick => exact ends_same h (tick_slots s)
  | timeWrap => exact ends_same h (by split <;> simp)
  | dayRoll => exact ends_same h (by split <;> simp)
  | commitGrant u => exact commitGrant_slotsWf u h
  | readGrant u => exact readGrant_slotsWf u h
  | writeVerifyOk a start => exact writeVerifyOk_slotsWf a start h
  | writeVerifyError a => exact writeVerifyError_slotsWf a h
  | readAnswer a b => exact readAnswer_slotsWf a b h
  | tileWritten => exact tileWritten_slotsWf h
  | supplyLow => exact supplyLow_slotsWf h
  | supplyNormal => exact supplyNormal_slotsWf h
  | brownoutReset => exact ends_slotsWf (slotsWf_allFree rfl)
  | powerReset => exact ends_slotsWf (slotsWf_allFree rfl)
  | supplyRecovered => exact supplyRecovered_slotsWf h
  | lineAssert => exact lineAssert_slotsWf h
  | lineRelease => exact lineRelease_slotsWf h
  | linkReset => exact linkReset_slotsWf h
  | unitQueryAnswer u n w => exact unitQueryAnswer_slotsWf u n w h
  | queryLimitExpiry u => exact queryLimitExpiry_slotsWf u h

/-- Settles O6: a slot is left alone, freed, bound afresh or filled, and each keeps it well formed; the step runs one
command. -/
theorem slotsStayWf : Obligations.SlotsStayWf := by
  intro s t h hstep
  unfold step at hstep
  split at hstep
  · cases hstep; exact h
  · next c rest _ =>
    obtain ⟨u, hu, hwf⟩ := slotsWf_exec c (s := { s with pending := rest }) h
    cases hu.symm.trans hstep
    exact hwf

end Sys2Proof.Machine.SlotLaws
end

section
/-! The end of a deposit and the close of an edition: DEPOSIT-END, CLOSE-EDITION and the two timers (R53, R55 to R57, R60, R61,
R65). -/

namespace Sys2Proof.Machine.DepositLaws
open Sys2Proof Sys2Proof.Machine

/-! ### Slots -/

theorem slotAt_eq_some {s : State} {k : Nat} {x : Slot} : slotAt s k = some x ↔ s.slots[k]? = some (some x) :=
  Option.join_eq_some_iff

/-- A BOUND slot released: it is FREE and its slabs are back (R53, R56). -/
theorem releaseSlot_bound {s : State} {k : Nat} {x : Slot} (h : slotAt s k = some x) :
    releaseSlot k s = { s with slots := s.slots.set k none, free := s.free + x.slabs.length } := by
  unfold releaseSlot
  rw [h]
  rfl

/-- The receive passes (R55): the record QUEUED, the slot FREE, its entry at the tail of the queue. -/
theorem queueSlot_eq (k : Nat) (x : Slot) (s : State) :
    queueSlot k x s = { setContent x.record .queued s with
      slots := s.slots.set k none
      queue := s.queue ++ [⟨x.record.entry, slabsFor x.declared, x.check, x.kept, x.slabs, 0, [], none⟩] } := by
  unfold queueSlot
  cases x.record <;> rfl

/-- Settles O29: the two checks of R57, then the first check of R55 that fails, if one does. -/
theorem depositEndQueuesOrFails : Obligations.DepositEndQueuesOrFails := by
  intro tag k s h
  refine ends_request h ?_
  unfold depositEnd
  refine ends_ensure (by simp) fun _ => ?_
  have hslot : slotAt (taken s) k = (s.slots[k]?).join := rfl
  match hs : s.slots[k]? with
  | none => exact ends_missing (by rw [hslot, hs]; rfl)
  | some none => exact ends_missing (by rw [hslot, hs]; rfl)
  | some (some x) =>
    have hx : slotAt (taken s) k = some x := by rw [hslot, hs]; rfl
    refine ends_found hx ?_
    have hfree := releaseSlot_bound hx
    have hend : crc32End x.crc = ~~~x.crc := rfl
    unfold Slot.failed
    rw [hend]
    by_cases hcount : x.kept.length ≠ x.declared
    · simp only [if_pos hcount, done_is_ok, answer_reply, hfree, taken_keeps]
    by_cases hmark : x.fault = true
    · simp only [if_neg hcount, if_pos hmark, done_is_ok, answer_reply, hfree, taken_keeps]
    by_cases hcheck : ~~~x.crc ≠ x.check
    · simp only [if_neg hcount, if_neg hmark, if_pos hcheck, done_is_ok, answer_reply, hfree, taken_keeps]
    · simp only [if_neg hcount, if_neg hmark, if_neg hcheck, done_is_ok, answer_reply, queueSlot_eq,
        taken_keeps, List.length_append, List.length_singleton, slabsFor]

/-! ### Editions -/

theorem hasKey_iff (day index : Nat) (e : Edition) : e.hasKey day index = true ↔ e.day = day ∧ e.index = index := by
  simp [Edition.hasKey]

theorem key_of_findEdition {s : State} {day index : Nat} {e : Edition} (h : findEdition s day index = some e) :
    e.day = day ∧ e.index = index :=
  (hasKey_iff day index e).mp (List.find?_some h)

/-- The edition with a key gets a state, as the statements write it. -/
theorem setEditionState_eq (day index : Nat) (st : EditionState) (s : State) :
    setEditionState day index st s = { s with editions := s.editions.map fun x =>
      if x.day = day ∧ x.index = index then { x with state := st } else x } := by
  simp only [setEditionState, modifyEdition, hasKey_iff]

/-- Settles O31: R60's checks one after another, then R61's two outcomes. -/
theorem closeEditionClosesOrStarts : Obligations.CloseEditionClosesOrStarts := by
  intro tag r s h
  refine ends_request h ?_
  unfold closeEdition
  have hfind : findEdition (taken s) r.day r.index = findEdition s r.day r.index := rfl
  cases he : findEdition s r.day r.index with
  | none => exact ends_missing (hfind.trans he)
  | some e =>
    refine ends_found (hfind.trans he) ?_
    refine ends_ensure (by simp) fun _ => ?_
    refine ends_ensure (by simp) fun _ => ?_
    obtain ⟨hday, hindex⟩ := key_of_findEdition he
    by_cases hcount : e.pages.length ≠ r.expected
    · simp only [if_pos hcount, refuse_is_error, answer_error]
    rw [if_neg hcount, if_neg hcount]
    match e.firstUnsettled with
    | some (page, n, st) => rfl
    | none =>
      by_cases hstored : e.unstored = 0
      · simp only [if_pos hstored, done_is_ok, answer_reply, closeNow, setEditionState_eq, hday, hindex, taken_keeps]
      · simp only [if_neg hstored, done_is_ok, answer_reply, setEditionState_eq, taken_keeps]

/-! ### The two timers -/

/-- Settles O32: each timer when it is due and before, the stalled record by what bound its slot. -/
theorem depositTimersExpire : Obligations.DepositTimersExpire := by
  intro s
  refine ⟨fun k x hk => ?_, fun k hk => ?_, fun day index e target start he hst => ?_⟩
  · have hx := slotAt_eq_some.mpr hk
    have hfree := releaseSlot_bound hx
    change execStallTimerExpiry k s = _
    simp only [execStallTimerExpiry, hx]
    by_cases hdue : (s.timeBase - x.stall).toNat < 2000
    · simp only [(due_false_iff s stallSeconds x.stall).mpr hdue, if_pos hdue]; rfl
    · have hd : due s stallSeconds x.stall = true := (due_iff ..).mpr (Nat.not_lt.mp hdue)
      rw [if_pos hd, if_neg hdue]
      unfold stallRecord
      match hkind : x.kind, hrec : x.record with
      | .push, .plate r =>
        cases htop : onTop s r <;> cases hp : findPlate s r <;>
          simp [hfree, hp, htop, outcomeRemoved, outcomeFailed, Subject.notice]
      | .push, .photo n => simp [hfree, outcomeFailed]
      | .refill, _ => simp [hfree, outcomeFailed]
      | .photo, _ => simp [hfree, outcomeFailed]
  · change execStallTimerExpiry k s = _
    simp only [execStallTimerExpiry, hk]
  · change execCloseTimerExpiry day index s = _
    simp only [execCloseTimerExpiry, he, hst]
    by_cases hdue : (s.timeBase - start).toNat < 12000
    · simp only [(due_false_iff s closeSeconds start).mpr hdue, if_pos hdue]; rfl
    · have hd : due s closeSeconds start = true := (due_iff ..).mpr (Nat.not_lt.mp hdue)
      rw [if_pos hd, if_neg hdue, setEditionState_eq]
      rfl

end Sys2Proof.Machine.DepositLaws
end

section
/-! The receiver takes a whole frame (R190 to R193), a data frame fills its slot (R50, R51), and what a holder writes into its
slabs reads back (R92). -/

namespace Sys2Proof.Machine.FrameLaws
open Sys2Proof Sys2Proof.Machine

/-! ### Numbers and bytes (R190) -/

@[simp] theorem beBytes_length (w n : Nat) : (beBytes w n).length = w := by
  induction w with
  | zero => rfl
  | succ w ih => simp [beBytes, ih]

/-- The bytes of a number spell it, modulo what they have room for. -/
theorem beNat_beBytes_mod (w n : Nat) : beNat (beBytes w n) = n % 256 ^ w := by
  have run : ∀ (w : Nat) (acc : Nat),
      (beBytes w n).foldl (fun a (x : Byte) => a * 256 + x.toNat) acc = acc * 256 ^ w + n % 256 ^ w := by
    intro w
    induction w with
    | zero => intro acc; simp [beBytes, Nat.mod_one]
    | succ w ih =>
      intro acc
      have hsplit : n % 256 ^ (w + 1) = 256 ^ w * (n / 256 ^ w % 256) + n % 256 ^ w := by
        rw [pow_succ, Nat.mod_mul]; omega
      simp only [beBytes, List.foldl_cons, ih, BitVec.toNat_ofNat, hsplit]
      ring
  simpa [beNat] using run w 0

theorem beNat_beBytes {w n : Nat} (h : n < 256 ^ w) : beNat (beBytes w n) = n :=
  (beNat_beBytes_mod w n).trans (Nat.mod_eq_of_lt h)

/-! ### The receiver (R192) -/

/-- The bytes taken so far have not come to the end of the frame, and none of them ends it. -/
theorem readingByte_more {b : List Byte} {s : State}
    (h : 2 ≤ b.length → beNat (b.take 2) ≤ 4104 ∧ b.length < beNat (b.take 2) + 8) :
    readingByte b s = { s with receiver := .reading b } := by
  unfold readingByte
  dsimp only
  rw [if_neg (by omega), if_neg (by omega)]

/-- The last byte of a frame has come. -/
theorem readingByte_last {b : List Byte} {s : State} (h : b.length = beNat (b.take 2) + 8) :
    readingByte b s = frameWhole b { s with receiver := .hunting false } := by
  unfold readingByte
  dsimp only
  rw [if_neg (by omega), if_pos (by omega)]

/-- While READING, the rest of a frame is taken to its end, and the frame is whole. -/
theorem receive_reading {w : List Byte} (hlen : w.length = beNat (w.take 2) + 8) (hmax : beNat (w.take 2) ≤ 4104)
    (b p : List Byte) (hw : p ++ b = w) (hb : b ≠ []) (s : State) (hs : s.receiver = .reading p) :
    receive b s = frameWhole w { s with receiver := .hunting false } := by
  induction b generalizing p s with
  | nil => exact absurd rfl hb
  | cons x b ih =>
    have hbyte : receiveByte s x = readingByte (p ++ [x]) s := by simp [receiveByte, hs]
    have hw' : (p ++ [x]) ++ b = w := by simpa using hw
    change receive b (receiveByte s x) = _
    rw [hbyte]
    by_cases hend : b = []
    · subst hend
      obtain rfl : p ++ [x] = w := by simpa using hw
      exact readingByte_last hlen
    · have hshort : (p ++ [x]).length < w.length := by
        rw [← hw', List.length_append (bs := b)]; have := List.length_pos_iff.mpr hend; omega
      have htake : 2 ≤ (p ++ [x]).length → (p ++ [x]).take 2 = w.take 2 := fun h2 => by
        rw [← hw', List.take_append_of_le_length h2]
      rw [readingByte_more fun h2 => by rw [htake h2]; omega]
      exact ih (p ++ [x]) hw' hend _ rfl

/-- The opening mark, met while HUNTING (R192). -/
theorem receive_mark {s : State} {m : Bool} (hs : s.receiver = .hunting m) (b : List Byte) :
    receive (0xA5#8 :: 0x5A#8 :: b) s = receive b { s with receiver := .reading [] } := by
  have hfirst : receiveByte s 0xA5#8 = { s with receiver := .hunting true } := by
    cases m <;> simp [receiveByte, hs]
  change receive b (receiveByte (receiveByte s 0xA5#8) 0x5A#8) = _
  rw [hfirst]
  rfl

theorem frameInner_length (kind tag code : Nat) (body : List Byte) :
    (frameInner kind tag code body).length = body.length + 6 := by
  simp [frameInner]; omega

/-- A whole frame with its check is handed on with its own fields (R191, R192). -/
theorem frameWhole_checked {kind tag code : Nat} {body : List Byte} (hk : kind < 256) (ht : tag < 256)
    (hc : code < 65536) (s : State) :
    frameWhole (frameInner kind tag code body ++ beBytes 2 (crc16 (frameInner kind tag code body)).toNat) s
      = handOn kind tag code body s := by
  have hcrc : beNat (beBytes 2 (crc16 (frameInner kind tag code body)).toNat)
      = (crc16 (frameInner kind tag code body)).toNat := beNat_beBytes (BitVec.isLt _)
  have hkind : beNat (((frameInner kind tag code body).drop 2).take 1) = kind := beNat_beBytes (w := 1) hk
  have htag : beNat (((frameInner kind tag code body).drop 3).take 1) = tag := beNat_beBytes (w := 1) ht
  have hcode : beNat (((frameInner kind tag code body).drop 4).take 2) = code := beNat_beBytes (w := 2) hc
  have hbody : (frameInner kind tag code body).drop 6 = body := rfl
  unfold frameWhole
  simp only [List.length_append, beBytes_length, Nat.add_sub_cancel, List.take_left', List.drop_left', hcrc, if_true,
    hkind, htag, hcode, hbody]

/-- A frame met while HUNTING reaches what its kind names, the receiver HUNTING again (R191 to R193). -/
theorem receive_frame {kind tag code : Nat} {body : List Byte} {m : Bool} {s : State} (hk : kind < 256) (ht : tag < 256)
    (hc : code < 65536) (hbody : body.length ≤ 4104) (hs : s.receiver = .hunting m) :
    receive (frameBytes kind tag code body) s = handOn kind tag code body { s with receiver := .hunting false } := by
  have hsize : beNat ((frameInner kind tag code body ++ beBytes 2 (crc16 (frameInner kind tag code body)).toNat).take 2)
      = body.length := beNat_beBytes (w := 2) (by omega)
  refine (receive_mark hs _).trans ((receive_reading ?_ ?_ _ [] rfl ?_ _ rfl).trans (frameWhole_checked hk ht hc _))
  · rw [List.nil_append, hsize, List.length_append, frameInner_length, beBytes_length]
  · rw [List.nil_append, hsize]; exact hbody
  · simp [beBytes]

/-! ### A data frame at its slot (R50, R51) -/

/-- Writing no bytes writes nothing. -/
@[simp] theorem writeHolder_nil (l : List Nat) (p : Nat) (m : List SlabContent) : writeHolder l p [] m = m := by
  induction l generalizing p with
  | nil => rfl
  | cons k l ih => unfold writeHolder; split <;> simp [ih]

/-- A frame at the wrong offset, or at a slot already full, sets the mark and keeps nothing. -/
theorem fillSlot_wrong {k offset : Nat} {data : List Byte} {x : Slot} {s : State}
    (h : offset ≠ x.kept.length ∨ x.declared ≤ x.kept.length) :
    fillSlot k offset data x s = { s with slots := s.slots.set k (some { x with fault := true }) } := by
  have htake : x.take s.timeBase offset data = { x with fault := true } := by
    unfold Slot.take
    split
    · rfl
    · rw [if_pos (by omega)]
  have hnone : x.accepts offset data = [] := by
    unfold Slot.accepts
    split
    · rw [show x.declared - x.kept.length = 0 by omega, List.take_zero]
    · rfl
  simp only [fillSlot, htake, hnone, stage, writeHolder_nil]
  rfl

/-- A frame at the count kept, the slot not full: the bytes that fit are kept, and those beyond set the mark. -/
theorem fillSlot_right {k offset : Nat} {data : List Byte} {x : Slot} {s : State}
    (h : ¬ (offset ≠ x.kept.length ∨ x.declared ≤ x.kept.length)) :
    fillSlot k offset data x s = { s with
      staging := writeHolder x.slabs x.kept.length (data.take (x.declared - x.kept.length)) s.staging
      slots := s.slots.set k (some { x with
        kept := x.kept ++ data.take (x.declared - x.kept.length)
        crc := crc32Run x.crc (data.take (x.declared - x.kept.length))
        stall := s.timeBase
        fault := x.fault || decide (x.declared < x.kept.length + data.length) }) } := by
  obtain ⟨hoff, hroom⟩ := not_or.mp h
  have hacc : x.accepts offset data = data.take (x.declared - x.kept.length) := if_pos (not_not.mp hoff)
  have hmark : (data.take (x.declared - x.kept.length)).length < data.length
      ↔ x.declared < x.kept.length + data.length := by
    rw [List.length_take]; omega
  have htake : x.take s.timeBase offset data = { x with
      kept := x.kept ++ data.take (x.declared - x.kept.length)
      crc := crc32Run x.crc (data.take (x.declared - x.kept.length))
      stall := s.timeBase
      fault := x.fault || decide (x.declared < x.kept.length + data.length) } := by
    unfold Slot.take
    rw [if_neg hoff, if_neg (by omega)]
    simp only [hacc, hmark]
  simp only [fillSlot, htake, hacc]
  rfl

/-- A frame handed to the Receive Slots, as the statement writes it. -/
theorem receiveData_eq (tag : Nat) (body : List Byte) (s : State) :
    receiveData tag body s =
      if body.length < 5 ∨ 4100 < body.length then s
      else
        match s.slots[tag]? with
        | some (some x) => fillSlot tag (beNat (body.take 4)) (body.drop 4) x s
        | _ => s := by
  unfold receiveData slotAt
  split
  · rfl
  · match s.slots[tag]? with
    | none => rfl
    | some none => rfl
    | some (some x) => rfl

/-! ### What is written reads back (R92) -/

/-- A byte written into one slab reads back from it. -/
theorem writeSlab_reads {k p : Nat} {b : List Byte} {m : List SlabContent} (hm : StagingWf m)
    (hp : p ≤ (slabHolds m k).length) {i : Nat} {x : Byte} (hx : b[i]? = some x) :
    (slabHolds (writeSlab k p b m) k)[p + i]? = some x := by
  have hi : i < b.length := (List.getElem?_eq_some_iff.mp hx).1
  have hb : b ≠ [] := List.ne_nil_of_length_pos (by omega)
  rw [writeSlab_same hb hm]
  split
  · next hempty =>
    obtain rfl : p = 0 := by simpa [hempty] using hp
    simpa using hx
  · have htake : ((slabHolds m k).take p).length = p := by simpa using hp
    unfold overlay
    rw [List.append_assoc, List.getElem?_append_right (by omega), htake, Nat.add_sub_cancel_left,
      List.getElem?_append_left hi]
    exact hx

/-- A byte a holder writes reads back from the slab that has its place. -/
theorem writeHolder_reads {l : List Nat} {p : Nat} {b : List Byte} {m : List SlabContent} (hm : StagingWf m)
    (hl : l.Nodup) (hfit : p + b.length ≤ 65536 * l.length)
    (hp : p % 65536 ≤ (slabHolds m (l.getD (p / 65536) 0)).length) {i : Nat} {x : Byte} (hx : b[i]? = some x) :
    (slabHolds (writeHolder l p b m) (l.getD ((p + i) / 65536) 0))[(p + i) % 65536]? = some x := by
  have hi : i < b.length := (List.getElem?_eq_some_iff.mp hx).1
  induction l generalizing p b m i with
  | nil => rw [List.length_nil] at hfit; omega
  | cons k l ih =>
    obtain ⟨hk, hl⟩ := List.nodup_cons.mp hl
    rw [List.length_cons] at hfit
    unfold writeHolder
    split
    · next hlt =>
      have hlt : p < 65536 := hlt
      rw [Nat.mod_eq_of_lt hlt, Nat.div_eq_of_lt hlt] at hp
      by_cases hhere : p + i < 65536
      · rw [Nat.mod_eq_of_lt hhere, Nat.div_eq_of_lt hhere, List.getD_cons_zero, writeHolder_other hk]
        refine writeSlab_reads hm hp ?_
        rw [List.getElem?_take_of_lt (by unfold slabBytes; omega)]
        exact hx
      · have hdrop : (b.drop (slabBytes - p))[i - (65536 - p)]? = some x := by
          rw [List.getElem?_drop, show slabBytes - p + (i - (65536 - p)) = i by unfold slabBytes; omega]
          exact hx
        have hnext := ih (p := 0) (writeSlab_wf k p (b.take (slabBytes - p)) m hm) hl
          (by rw [List.length_drop]; unfold slabBytes; omega) (Nat.zero_le _) hdrop
          (List.getElem?_eq_some_iff.mp hdrop).1
        rw [show (p + i) / 65536 = (0 + (i - (65536 - p))) / 65536 + 1 by omega, List.getD_cons_succ,
          show (p + i) % 65536 = (0 + (i - (65536 - p))) % 65536 by omega]
        exact hnext
    · next hge =>
      have hge : 65536 ≤ p := Nat.not_lt.mp hge
      rw [show p / 65536 = (p - 65536) / 65536 + 1 by omega, List.getD_cons_succ,
        show p % 65536 = (p - 65536) % 65536 by omega] at hp
      have hnext := ih (p := p - 65536) hm hl (by omega) hp hx hi
      rw [show (p + i) / 65536 = (p - 65536 + i) / 65536 + 1 by omega, List.getD_cons_succ,
        show (p + i) % 65536 = (p - 65536 + i) % 65536 by omega]
      exact hnext

/-- Settles O15: the frame comes whole through the receiver to its slot, which takes it or sets the mark. -/
theorem dataFramesFillTheirSlot : Obligations.DataFramesFillTheirSlot := by
  refine ⟨fun tag body m s htag hbody hs _ => ?_, fun l p b m hm hl hfit hp i x hx => writeHolder_reads hm hl hfit hp hx⟩
  have hframe := receive_frame (kind := 3) (code := 0) (by omega) htag (by omega) hbody hs
  have hkind : handOn 3 tag 0 body { s with receiver := .hunting false }
      = receiveData tag body { s with receiver := .hunting false } := rfl
  refine congrArg Host.Outcome.next (hframe.trans (hkind.trans ((receiveData_eq ..).trans ?_)))
  refine ite_congr rfl (fun _ => rfl) fun _ => ?_
  match s.slots[tag]? with
  | none => rfl
  | some none => rfl
  | some (some x) =>
    by_cases hwrong : beNat (body.take 4) ≠ x.kept.length ∨ x.declared ≤ x.kept.length
    · exact (fillSlot_wrong hwrong).trans (if_pos hwrong).symm
    · exact (fillSlot_right hwrong).trans (if_neg hwrong).symm

end Sys2Proof.Machine.FrameLaws
end

section
/-! What is found in the catalogue, the queue and the units after a change of one record, and what all of a step's work
leaves of it (log 9). -/

namespace Sys2Proof.Machine.RecordLaws
open Sys2Proof Sys2Proof.Machine Sys2Proof.Machine.CascadeLaws Sys2Proof.Machine.DepositLaws

/-! ### Editions and plates -/

theorem findEdition_congr {s t : State} (h : t.editions = s.editions) : findEdition t = findEdition s := by
  unfold findEdition; rw [h]

theorem findPlate_congr {s t : State} (h : t.editions = s.editions) : findPlate t = findPlate s := by
  unfold findPlate; rw [findEdition_congr h]

/-- Every edition found after a change of one is as it was, or the one that was changed. -/
theorem findEdition_modifyEdition {f : Edition → Edition} (hf : ∀ e, (f e).day = e.day ∧ (f e).index = e.index)
    (d i : Nat) (s : State) (day index : Nat) :
    findEdition (modifyEdition d i f s) day index
      = (findEdition s day index).map fun e => if e.hasKey d i then f e else e := by
  have hkey : (Edition.hasKey day index ∘ fun e => if e.hasKey d i then f e else e) = Edition.hasKey day index := by
    funext e
    simp only [Function.comp]
    split
    · simp only [Edition.hasKey, hf]
    · rfl
  unfold findEdition
  rw [modifyEdition_writes, List.find?_map, hkey]

/-- The edition that was changed is found changed. -/
theorem findEdition_modifyEdition_self {f : Edition → Edition} (hf : ∀ e, (f e).day = e.day ∧ (f e).index = e.index)
    {d i : Nat} {s : State} {e : Edition} (h : findEdition s d i = some e) :
    findEdition (modifyEdition d i f s) d i = some (f e) := by
  rw [findEdition_modifyEdition hf, h, Option.map_some, if_pos ((hasKey_iff d i e).mpr (key_of_findEdition h))]

/-- A change that leaves the pages of an edition alone leaves its plates alone. -/
theorem findPlate_modifyEdition {f : Edition → Edition}
    (hf : ∀ e, (f e).day = e.day ∧ (f e).index = e.index ∧ (f e).pages = e.pages) (d i : Nat) (s : State) :
    findPlate (modifyEdition d i f s) = findPlate s := by
  funext r
  unfold findPlate
  rw [findEdition_modifyEdition fun e => ⟨(hf e).1, (hf e).2.1⟩]
  cases findEdition s r.day r.index with
  | none => rfl
  | some e =>
    have hslot : ∀ n, (if e.hasKey d i then f e else e).slot n = e.slot n := fun n => by
      split
      · simp only [Edition.slot, hf]
      · rfl
    simp only [Option.map_some, Option.bind_some, hslot]

theorem findPlate_setEditionState (d i : Nat) (st : EditionState) (s : State) :
    findPlate (setEditionState d i st s) = findPlate s :=
  findPlate_modifyEdition (f := fun e => { e with state := st }) (fun _ => ⟨rfl, rfl, rfl⟩) d i s

/-- The reference names the plate that a change of plate r reaches. -/
abbrev hits (r x : PlateRef) : Prop :=
  (x.day = r.day ∧ x.index = r.index) ∧ x.page = r.page ∧ r.plate - 1 = x.plate - 1

theorem slot_modifySlot {f : PageSlot → PageSlot} (hf : ∀ p, (f p).page = p.page) (page : Nat) (e : Edition) (n : Nat) :
    (e.modifySlot page f).slot n = (e.slot n).map fun p => if p.page = page then f p else p := by
  have hpred : ((fun p : PageSlot => decide (p.page = n)) ∘ fun p => if p.page = page then f p else p)
      = fun p => decide (p.page = n) := by
    funext p
    simp only [Function.comp]
    split
    · rw [hf]
    · rfl
  unfold Edition.slot Edition.modifySlot
  rw [List.find?_map, hpred]

theorem plate_modify (p : PageSlot) (k : Nat) (f : Plate → Plate) (n : Nat) :
    PageSlot.plate { p with plates := p.plates.modify k f } n
      = (p.plate n).map fun q => if k = n - 1 then f q else q := by
  unfold PageSlot.plate
  split
  · rfl
  · exact List.getElem?_modify ..

/-- A change of plate r in its edition. -/
abbrev inEdition (r : PlateRef) (f : Plate → Plate) : Edition → Edition :=
  Edition.modifySlot r.page fun p => { p with plates := p.plates.modify (r.plate - 1) f }

/-- Every plate found after a change of one is as it was, or the one that was changed. -/
theorem findPlate_modifyPlate_eq (r : PlateRef) (f : Plate → Plate) (s : State) (x : PlateRef) :
    findPlate (modifyPlate r f s) x = (findPlate s x).map fun p => if hits r x then f p else p := by
  unfold findPlate modifyPlate
  rw [findEdition_modifyEdition (f := inEdition r f) (fun _ => ⟨rfl, rfl⟩)]
  cases he : findEdition s x.day x.index with
  | none => rfl
  | some e =>
    obtain ⟨hday, hindex⟩ := key_of_findEdition he
    have hkey : e.hasKey r.day r.index = true ↔ x.day = r.day ∧ x.index = r.index := by
      rw [hasKey_iff, hday, hindex]
    simp only [Option.map_some, Option.bind_some]
    by_cases hk : x.day = r.day ∧ x.index = r.index
    · rw [if_pos (hkey.mpr hk), inEdition,
        slot_modifySlot (f := fun p => { p with plates := p.plates.modify (r.plate - 1) f }) (fun _ => rfl)]
      cases hp : e.slot x.page with
      | none => rfl
      | some p =>
        have hpage : p.page = x.page := by simpa using List.find?_some hp
        simp only [Option.map_some, Option.bind_some]
        by_cases hn : x.page = r.page
        · rw [if_pos (hpage.trans hn), plate_modify]
          simp only [hits, hk, hn, true_and, and_self]
        · rw [if_neg (mt hpage.symm.trans hn)]
          simp only [hits, hn, false_and, and_false, if_false, Option.map_id']
    · rw [if_neg (mt hkey.mp hk)]
      simp only [hits, hk, false_and, if_false, Option.map_id']

/-- The plate that was changed is found changed. -/
theorem findPlate_modifyPlate_self (r : PlateRef) (f : Plate → Plate) (s : State) :
    findPlate (modifyPlate r f s) r = (findPlate s r).map f := by
  rw [findPlate_modifyPlate_eq]
  simp only [hits, and_self, if_true]

/-- A change that leaves a part of every plate alone leaves it alone in every plate found. -/
theorem findPlate_modifyPlate_view {α : Type} (v : Plate → α) {f : Plate → Plate} (hf : ∀ p, v (f p) = v p)
    (r : PlateRef) (s : State) (x : PlateRef) :
    (findPlate (modifyPlate r f s) x).map v = (findPlate s x).map v := by
  rw [findPlate_modifyPlate_eq, Option.map_map]
  congr 1
  funext p
  simp only [Function.comp]
  split
  · exact hf p
  · rfl

/-- A change of a plate leaves its edition's own state alone. -/
theorem findEdition_modifyPlate_state (r : PlateRef) (f : Plate → Plate) (s : State) (d i : Nat) :
    (findEdition (modifyPlate r f s) d i).map (·.state) = (findEdition s d i).map (·.state) := by
  unfold modifyPlate
  rw [findEdition_modifyEdition (f := inEdition r f) (fun _ => ⟨rfl, rfl⟩), Option.map_map]
  congr 1
  funext e
  simp only [Function.comp]
  split <;> rfl

/-! ### Entries and units -/

theorem findEntry_congr {s t : State} (h : t.queue = s.queue) : findEntry t = findEntry s := by
  unfold findEntry; rw [h]

/-- The entry found is that of the subject asked for. -/
theorem subject_of_findEntry {s : State} {x : EntrySubject} {e : Entry} (h : findEntry s x = some e) : e.subject = x := by
  simpa using List.find?_some h

/-- An entry that is there leaves with its place and its slabs (R83, R84). -/
theorem removeEntry_found {s : State} {x : EntrySubject} {e : Entry} (h : findEntry s x = some e) :
    removeEntry x s = { s with
      queue := s.queue.filter fun y => decide (y.subject ≠ x), free := s.free + e.slabs.length } := by
  unfold removeEntry
  rw [h]
  rfl

/-- Once an entry has left, its subject has none. -/
theorem findEntry_filter {t : State} {x : EntrySubject} {q : List Entry}
    (h : t.queue = q.filter fun y => decide (y.subject ≠ x)) : findEntry t x = none := by
  unfold findEntry
  rw [h, List.find?_eq_none]
  intro y hy
  simpa using (List.mem_filter.mp hy).2

theorem unitAt_congr {s t : State} (h : t.units = s.units) : unitAt t = unitAt s := by
  unfold unitAt; rw [h]

/-- A unit that is there, changed. -/
theorem unitAt_modify {s t : State} {u : Nat} {f : UnitRec → UnitRec} (hu : u < s.units.length)
    (h : t.units = s.units.modify u f) : unitAt t u = f (unitAt s u) := by
  unfold unitAt
  rw [h, List.getD_eq_getElem?_getD, List.getD_eq_getElem?_getD, List.getElem?_modify,
    List.getElem?_eq_getElem hu]
  simp

/-- A unit with an operation outstanding is there. -/
theorem lt_of_op {s : State} {u : Nat} {o : Operation} (h : (unitAt s u).op = some o) : u < s.units.length := by
  by_contra hu
  have habsent : unitAt s u = absentUnit := by
    unfold unitAt
    rw [List.getD_eq_getElem?_getD, List.getElem?_eq_none (Nat.not_lt.mp hu)]
    rfl
  rw [habsent] at h
  cases h

/-! ### What a step's work leaves of the units -/

/-- What no task changes of a unit: its state, its failures, its writes, and whether it is BUSY. -/
def standing (x : UnitRec) : UnitState × Nat × Nat × Bool := (x.state, x.failures, x.writeCount, x.op.isSome)

theorem orphan_standing (o : Owner) (x : UnitRec) : standing (x.orphan o) = standing x := by
  unfold UnitRec.orphan
  split
  · next hop =>
    split
    · simp only [standing, hop, Option.isSome_some]
    · rfl
  · rfl

theorem endReads_standing (o : Owner) (s : State) : (endReads o s).units.map standing = s.units.map standing := by
  rw [(endReads_writes o s).2, List.map_map]
  exact List.map_congr_left fun x _ => orphan_standing o x

theorem endJob_standing (j : Job) (s : State) : (endJob j s).units.map standing = s.units.map standing :=
  endReads_standing (.job j.number) s

/-- A change of one unit that leaves its standing alone. -/
theorem modify_standing {f : UnitRec → UnitRec} (hf : ∀ x, standing (f x) = standing x) (u : Nat) (l : List UnitRec) :
    (l.modify u f).map standing = l.map standing := by
  refine List.ext_getElem? fun k => ?_
  rw [List.getElem?_map, List.getElem?_map, List.getElem?_modify, Option.map_eq_map, Option.map_map]
  congr 1
  funext x
  simp only [Function.comp]
  split
  · exact hf x
  · rfl

theorem returnExtents_standing (l : Location) (n : Nat) (s : State) :
    (returnExtents l n s).units.map standing = s.units.map standing := by
  unfold returnExtents
  split
  · rfl
  · exact modify_standing (f := fun x => { x with free := x.free + n }) (fun _ => rfl) l.unit s.units

theorem giveUp_standing (o i : Nat) (it : ItemRec) (s : State) :
    (giveUp o i it s).units.map standing = s.units.map standing := by
  unfold giveUp
  split
  · rfl
  · rfl
  · unfold leaveJob
    extract_lets t
    split
    · rfl
    · split
      · simp [endJob_standing, t]
      · rfl
  · exact endReads_standing (.item o i) s
  · rfl
  · rfl

theorem cancelItem_standing (o i : Nat) (reason : CancelReason) (s : State) :
    (cancelItem o i reason s).1.units.map standing = s.units.map standing := by
  obtain ⟨-, hs⟩ | ⟨it, t, -, hs, -, -, -, hu, -⟩ := cancelItem_cases o i reason s
  · rw [hs]
  · rw [hs, (show (settleIfDone o t).units = t.units by simp), hu, giveUp_standing]

theorem failRead_standing (o : Owner) (s : State) : (failRead o s).1.units.map standing = s.units.map standing := by
  unfold failRead
  split
  · rfl
  · unfold ownerFailed
    split
    · split
      · simp
      · next n _ x _ => exact (endReads_standing (.ticket x.number) _).trans (by simp)
    · simp
    · simp

/-! ### What a step's work leaves of the catalogue and the queue -/

/-- A copy is installed: the plate has a new restored copy (R124). -/
abbrev withCopy (c : RestoredCopy) (p : Plate) : Plate := { p with restored := some c }

/-- The editions and the units' standing after an installation. -/
theorem installCopy_records (n : Nat) (s : State) :
    ((installCopy n s).1.editions = s.editions
      ∨ ∃ r c, (installCopy n s).1.editions = (modifyPlate r (withCopy c) s).editions)
    ∧ (installCopy n s).1.units.map standing = s.units.map standing := by
  unfold installCopy
  split
  · exact ⟨.inl rfl, rfl⟩
  · next j _ =>
    split
    · next l p _ _ =>
      extract_lets t c u
      have ht : t.editions = s.editions ∧ t.units.map standing = s.units.map standing := by
        unfold t
        split
        · exact ⟨by simp, returnExtents_standing ..⟩
        · exact ⟨rfl, rfl⟩
      refine ⟨.inr ⟨j.plate, c, ?_⟩, ?_⟩
      · simp [u, modifyPlate, ht.1]
      · simp [u, endJob_standing, ht.2]
    · exact ⟨.inl rfl, rfl⟩

/-- A place taken is taken for a restored copy (R123). -/
theorem enterCommitting_findEntry (n : Nat) (s : State) {x : EntrySubject} (hx : ∀ k, x ≠ .restored k) :
    findEntry (enterCommitting n s) x = findEntry s x := by
  unfold enterCommitting
  split
  · rfl
  · split
    · rfl
    · simp [findEntry, List.find?_append, (hx n).symm]

/-- What all of a step's work keeps: each unit's standing, each edition's state, what is stored of each plate, and the
entries of plates and photos. -/
structure Kept (s t : State) : Prop where
  units : t.units.map standing = s.units.map standing
  editions : ∀ d i, (findEdition t d i).map (·.state) = (findEdition s d i).map (·.state)
  plates : ∀ r, (findPlate t r).map (fun p => (p.state, p.location, p.size, p.check))
    = (findPlate s r).map fun p => (p.state, p.location, p.size, p.check)
  entries : ∀ x, (∀ k, x ≠ .restored k) → findEntry t x = findEntry s x

theorem Kept.refl (s : State) : Kept s s := ⟨rfl, fun _ _ => rfl, fun _ => rfl, fun _ _ => rfl⟩

theorem Kept.trans {s t u : State} (h : Kept s t) (h' : Kept t u) : Kept s u where
  units := h'.units.trans h.units
  editions d i := (h'.editions d i).trans (h.editions d i)
  plates r := (h'.plates r).trans (h.plates r)
  entries x hx := (h'.entries x hx).trans (h.entries x hx)

theorem kept_of_same {s t : State} (hu : t.units.map standing = s.units.map standing) (he : t.editions = s.editions)
    (hq : t.queue = s.queue) : Kept s t where
  units := hu
  editions _ _ := by rw [findEdition_congr he]
  plates _ := by rw [findPlate_congr he]
  entries _ _ := by rw [findEntry_congr hq]

theorem kept_installCopy (n : Nat) (s : State) : Kept s (installCopy n s).1 := by
  obtain ⟨he | ⟨r, c, he⟩, hu⟩ := installCopy_records n s
  · exact kept_of_same hu he (by simp)
  · exact {
      units := hu
      editions := fun d i => by rw [findEdition_congr he, findEdition_modifyPlate_state]
      plates := fun x => by
        rw [findPlate_congr he]
        exact findPlate_modifyPlate_view (f := withCopy c) (fun p => (p.state, p.location, p.size, p.check))
          (fun _ => rfl) r s x
      entries := fun x _ => by rw [findEntry_congr (t := (installCopy n s).1) (s := s) (by simp)] }

theorem kept_perform (t : Task) (s : State) : Kept s (perform t s).1 := by
  unfold perform
  split
  · cases t with
    | cancel o i reason => exact kept_of_same (cancelItem_standing o i reason s) (by simp [carryOut]) (by simp [carryOut])
    | failAtOnce o => exact kept_of_same (failRead_standing o s) (by simp [carryOut]) (by simp [carryOut])
    | failJob n why reason =>
      refine kept_of_same ?_ (by simp [carryOut]) (by simp [carryOut])
      simp only [carryOut, failJobNow]
      split
      · rfl
      · simp [endJob_standing]
    | install n => exact kept_installCopy n s
    | claimPlace n =>
      change Kept s (enterCommitting n s)
      exact {
        units := by simp
        editions := fun _ _ => by rw [findEdition_congr (t := enterCommitting n s) (s := s) (by simp)]
        plates := fun _ => by rw [findPlate_congr (t := enterCommitting n s) (s := s) (by simp)]
        entries := fun x hx => enterCommitting_findEntry n s hx }
    | _ => exact kept_of_same (by simp [carryOut]) (by simp [carryOut]) (by simp [carryOut])
  · exact Kept.refl s

theorem kept_drain (l : List Task) (s : State) : Kept s (drain l s) :=
  drain_induction (P := Kept s) (fun t _ h => h.trans (kept_perform t _)) l s (Kept.refl s)

/-- The standing of one unit. -/
theorem Kept.unit {s t : State} (h : Kept s t) (u : Nat) : standing (unitAt t u) = standing (unitAt s u) := by
  have hu : (t.units[u]?).map standing = (s.units[u]?).map standing := by
    rw [← List.getElem?_map, h.units, List.getElem?_map]
  unfold unitAt
  rw [List.getD_eq_getElem?_getD, List.getD_eq_getElem?_getD]
  cases ht : t.units[u]? <;> cases hs : s.units[u]? <;> simp_all

end Sys2Proof.Machine.RecordLaws
end

section
/-! The end of a write that its unit answers OK: the content stored, its entry gone, its edition closed (R63, R75, R83,
R123). -/

namespace Sys2Proof.Machine.WriteLaws
open Sys2Proof Sys2Proof.Machine Sys2Proof.Machine.CascadeLaws Sys2Proof.Machine.DepositLaws
  Sys2Proof.Machine.RecordLaws Sys2Proof.Machine.RightsLaws

/-! ### Which write an answer ends -/

/-- A unit's answer ends a write when the unit has an operation out under its number, and the write's entry is in the
queue (R72, R73). -/
theorem of_writeAt {s : State} {u op : Nat} {e : Entry} (h : writeAt s u op = some e) :
    u < s.units.length ∧ findEntry s e.subject = some e := by
  unfold writeAt at h
  split at h
  · next x hx =>
    obtain ⟨o, ho, -⟩ := Option.map_eq_some_iff.mp hx
    exact ⟨lt_of_op (Option.filter_eq_some_iff.mp ho).1, by rw [subject_of_findEntry h]; exact h⟩
  · cases h

/-- A number that is not that of the operation out ends nothing (log 30). -/
theorem writeAt_stale {s : State} {u op : Nat} (h : ∀ o, (unitAt s u).op = some o → o.number ≠ op) :
    writeAt s u op = none := by
  have hout : outstanding s u op = none := by
    unfold outstanding
    rw [Option.map_eq_none_iff, Option.filter_eq_none_iff]
    exact fun o ho => by simpa using h o ho
  unfold writeAt
  rw [hout]

theorem writeVerifyOk_discarded {s : State} {u op : Nat} (h : writeAt s u op = none) (start : Nat) :
    exec (.writeVerifyOk ⟨u, op⟩ start) s = .next s := by
  change execWriteVerifyOk ⟨u, op⟩ start s = _
  simp only [execWriteVerifyOk, h]

theorem writeVerifyOk_ends {s : State} {u op : Nat} {e : Entry} (h : writeAt s u op = some e) (start : Nat) :
    exec (.writeVerifyOk ⟨u, op⟩ start) s = .next (attemptDone u start e s) := by
  change execWriteVerifyOk ⟨u, op⟩ start s = _
  simp only [execWriteVerifyOk, h]

/-! ### What the write's end leaves -/

/-- A unit after a write that ended OK (R75, R83). -/
abbrev wrote (x : UnitRec) : UnitRec :=
  { x with op := none, failures := 0, writeCount := min 4294967295 (x.writeCount + 1) }

theorem writeDone_eq (u : Nat) (s : State) : writeDone u s = { s with units := s.units.modify u wrote } := by
  simp only [writeDone, clearFailures, endOperation, modifyUnit, List.modify_modify_eq]
  rfl

/-- The unit IDLE, the entry gone with its place and its slabs (R83). -/
abbrev ended (u : Nat) (e : Entry) (s t : State) : State := { t with
  units := s.units.modify u wrote
  queue := s.queue.filter fun x => decide (x.subject ≠ e.subject)
  free := s.free + e.slabs.length }

/-- Storing the subject does not look at the units. -/
theorem storeSubject_with_units (x : EntrySubject) (l : Location) (us : List UnitRec) (s : State) :
    storeSubject x l { s with units := us } = { storeSubject x l s with units := us } := by
  cases x <;> rfl

/-- Storing the subject leaves the queue and the slabs alone. -/
theorem storeSubject_keeps (x : EntrySubject) (l : Location) (s : State) :
    (storeSubject x l s).queue = s.queue ∧ (storeSubject x l s).free = s.free := by
  cases x <;> exact ⟨rfl, rfl⟩

/-- An attempt that ended OK: the subject stored, the notice, the close. -/
theorem attemptDone_eq {s : State} {e : Entry} (h : findEntry s e.subject = some e) (u start : Nat) :
    attemptDone u start e s = drain [] (closeIfStored e.subject (raiseStored e.subject u e.attempts
      (ended u e s (storeSubject e.subject ⟨u, start⟩ s)))) := by
  obtain ⟨hqueue, hfree⟩ := storeSubject_keeps e.subject ⟨u, start⟩ s
  unfold attemptDone
  rw [writeDone_eq, storeSubject_with_units, removeEntry_found (e := e)]
  · simp only [hqueue, hfree]
  · exact (congrFun (findEntry_congr hqueue) _).trans h

/-- The close looked at for a plate whose edition is there (R63). -/
theorem closeIfStored_plate {t : State} {r : PlateRef} {x : Edition} (h : findEdition t r.day r.index = some x) :
    closeIfStored (.plate r) t = if x.isClosing = true ∧ x.unstored = 0 then
      raise .editionClosed (.edition r.day r.index) [.u16 x.pages.length] (setEditionState r.day r.index .closed t)
    else t := by
  obtain ⟨hday, hindex⟩ := key_of_findEdition h
  simp only [closeIfStored, h, closeNow, hday, hindex]

/-- The close changes nothing but its edition's state, and raises a notice. -/
theorem closeIfStored_leaves (x : EntrySubject) (t : State) :
    (closeIfStored x t).units = t.units ∧ (closeIfStored x t).queue = t.queue ∧ (closeIfStored x t).photos = t.photos
      ∧ findPlate (closeIfStored x t) = findPlate t := by
  unfold closeIfStored
  split
  · split
    · exact ⟨rfl, rfl, rfl, rfl⟩
    · next e _ =>
      split
      · simp only [closeNow, raise_keeps]
        exact ⟨by simp [setEditionState], by simp [setEditionState], by simp [setEditionState],
          (findPlate_congr (by simp)).trans (findPlate_setEditionState e.day e.index .closed t)⟩
      · exact ⟨rfl, rfl, rfl, rfl⟩
  · exact ⟨rfl, rfl, rfl, rfl⟩

theorem raiseStored_keeps (x : EntrySubject) (u n : Nat) (t : State) :
    (raiseStored x u n t).units = t.units ∧ (raiseStored x u n t).queue = t.queue
      ∧ (raiseStored x u n t).photos = t.photos ∧ (raiseStored x u n t).editions = t.editions := by
  cases x <;> simp [raiseStored, EntrySubject.record]

/-- What is stored of a plate (R28, R83). -/
def storage (p : Plate) : ContentState × Option Location × Nat × BitVec 32 := (p.state, p.location, p.size, p.check)

/-- What all of the work of a write that ended OK leaves: its unit, its entry gone, and the records as stored. -/
theorem attemptDone_leaves {s : State} {e : Entry} (h : findEntry s e.subject = some e) (u start : Nat) :
    (u < s.units.length → standing (unitAt (attemptDone u start e s) u) = standing (wrote (unitAt s u)))
    ∧ ((∀ k, e.subject ≠ .restored k) → findEntry (attemptDone u start e s) e.subject = none)
    ∧ (∀ r, (findPlate (attemptDone u start e s) r).map storage
        = (findPlate (storeSubject e.subject ⟨u, start⟩ s) r).map storage)
    ∧ (attemptDone u start e s).photos = (storeSubject e.subject ⟨u, start⟩ s).photos := by
  rw [attemptDone_eq h]
  have hclosed := closeIfStored_leaves e.subject (raiseStored e.subject u e.attempts
    (ended u e s (storeSubject e.subject ⟨u, start⟩ s)))
  obtain ⟨hunits, hqueue, hphotos, heditions⟩ := raiseStored_keeps e.subject u e.attempts
    (ended u e s (storeSubject e.subject ⟨u, start⟩ s))
  rw [hunits, hqueue, hphotos, findPlate_congr heditions] at hclosed
  generalize closeIfStored e.subject _ = v at hclosed ⊢
  obtain ⟨hunits, hqueue, hphotos, hplates⟩ := hclosed
  have hkept := kept_drain [] v
  refine ⟨fun hlt => ?_, fun hx => ?_, fun r => ?_, (drain_keeps [] v).1.trans hphotos⟩
  · rw [hkept.unit u, unitAt_modify hlt hunits]
  · rw [hkept.entries e.subject hx, findEntry_filter hqueue]
  · exact (hkept.plates r).trans (by rw [hplates]; rfl)

/-- The last plate of a CLOSING edition stored: the edition is CLOSED, whatever work follows (R63). -/
theorem attemptDone_closes {s : State} {e : Entry} (h : findEntry s e.subject = some e) (u start : Nat) {r : PlateRef}
    (hr : e.subject = .plate r) {x : Edition}
    (hx : findEdition (setStored (.plate r) ⟨u, start⟩ s) r.day r.index = some x) (hc : x.isClosing = true)
    (hs : x.unstored = 0) :
    ∃ y, findEdition (attemptDone u start e s) r.day r.index = some y ∧ y.state = .closed := by
  have hx' : findEdition (raiseStored (.plate r) u e.attempts (ended u e s (setStored (.plate r) ⟨u, start⟩ s)))
      r.day r.index = some x := by
    obtain ⟨-, -, -, heditions⟩ :=
      raiseStored_keeps (.plate r) u e.attempts (ended u e s (setStored (.plate r) ⟨u, start⟩ s))
    rw [findEdition_congr heditions]
    exact hx
  rw [attemptDone_eq h, hr]
  change ∃ y, findEdition (drain [] (closeIfStored (.plate r) (raiseStored (.plate r) u e.attempts
    (ended u e s (setStored (.plate r) ⟨u, start⟩ s))))) r.day r.index = some y ∧ _
  rw [closeIfStored_plate hx', if_pos ⟨hc, hs⟩]
  refine Option.map_eq_some_iff.mp (((kept_drain [] _).editions r.day r.index).trans ?_)
  rw [findEdition_congr (raise_keeps _ _ _ _).1, setEditionState,
    findEdition_modifyEdition_self (f := fun e => { e with state := .closed }) (fun _ => ⟨rfl, rfl⟩) hx']
  rfl

/-- Settles O35: the answers that end no write, the records all the work leaves, and the whole state by the subject. -/
theorem writeOkStoresTheContent : Obligations.WriteOkStoresTheContent := by
  intro u op start s
  refine ⟨fun h => writeVerifyOk_discarded h start, fun h => writeVerifyOk_discarded (writeAt_stale h) start,
    fun e he => ?_⟩
  obtain ⟨hu, hentry⟩ := of_writeAt he
  rw [writeVerifyOk_ends he start]
  dsimp only
  refine ⟨⟨_, rfl, ?_⟩, ⟨fun r x hr hx => ?_, fun n hn => ?_⟩, fun n hn => ?_⟩
  · obtain ⟨hunit, hgone, hplates, hphotos⟩ := attemptDone_leaves hentry u start
    simp only [standing, Prod.mk.injEq] at hunit
    obtain ⟨-, hfailures, hcount, hop⟩ := hunit hu
    refine ⟨by simpa using hop, hfailures, hcount, fun r p hr hp => ?_, fun r x hr hx => ?_, fun n p hn hp => ?_⟩
    · refine ⟨hr ▸ hgone (by simp [hr]), ?_⟩
      have hstored := hplates r
      rw [hr] at hstored
      change _ = (findPlate (modifyPlate r _ s) r).map storage at hstored
      rw [findPlate_modifyPlate_self, hp] at hstored
      obtain ⟨q, hq, hview⟩ := Option.map_eq_some_iff.mp hstored
      simp only [storage, Prod.mk.injEq] at hview
      exact ⟨q, hq, hview⟩
    · exact attemptDone_closes hentry u start hr hx
    · refine ⟨hn ▸ hgone (by simp [hn]), ?_⟩
      rw [findPhoto_congr hphotos, hn]
      exact ⟨_, findPhoto_modifyPhoto (f := fun p => { p with state := .stored, location := some ⟨u, start⟩ })
        (fun _ => rfl) hp, rfl, rfl⟩
  · rw [hr] at hx
    rw [attemptDone_eq hentry, ended, hr]
    refine congrArg (fun t => Host.Outcome.next (drain [] t)) ((closeIfStored_plate hx).trans ?_)
    rw [setEditionState_eq]
  · rw [attemptDone_eq hentry, ended, hn]
    rfl
  · rw [attemptDone_eq hentry, ended, hn]
    rfl

end Sys2Proof.Machine.WriteLaws
end

section
/-! The end of a write attempt that failed, by the unit's ERROR or by expiry (R64, R75, R84, R89, R125). -/

namespace Sys2Proof.Machine.WriteFailLaws
open Sys2Proof Sys2Proof.Machine Sys2Proof.Machine.CascadeLaws Sys2Proof.Machine.DepositLaws
  Sys2Proof.Machine.RecordLaws Sys2Proof.Machine.RightsLaws Sys2Proof.Machine.WriteLaws

theorem writeVerifyError_discarded {s : State} {u op : Nat} (h : writeAt s u op = none) :
    exec (.writeVerifyError ⟨u, op⟩) s = .next s := by
  change execWriteVerifyError ⟨u, op⟩ s = _
  simp only [execWriteVerifyError, h]

theorem writeVerifyError_ends {s : State} {u op : Nat} {e : Entry} (h : writeAt s u op = some e) :
    exec (.writeVerifyError ⟨u, op⟩) s = .next (attemptFailed u e causeError s) := by
  change execWriteVerifyError ⟨u, op⟩ s = _
  simp only [execWriteVerifyError, h]

/-! ### The failure counted (R75) -/

theorem unitAt_of_le {s : State} {u : Nat} (h : s.units.length ≤ u) : unitAt s u = absentUnit := by
  unfold unitAt
  rw [List.getD_eq_getElem?_getD, List.getElem?_eq_none h]
  rfl

/-- Two changes of a unit are one when they agree on that unit. -/
theorem modify_unit_congr {s : State} {u : Nat} {f g : UnitRec → UnitRec} (h : f (unitAt s u) = g (unitAt s u)) :
    s.units.modify u f = s.units.modify u g := by
  refine List.ext_getElem? fun k => ?_
  rw [List.getElem?_modify, List.getElem?_modify]
  by_cases hk : u = k
  · subst hk
    cases hx : s.units[u]? with
    | none => rfl
    | some x =>
      have hunit : unitAt s u = x := by unfold unitAt; rw [List.getD_eq_getElem?_getD, hx]; rfl
      rw [hunit] at h
      simp [h]
  · simp only [if_neg hk]

/-- A unit after a failed attempt that took n extents, short of the eighth failure and at it. -/
abbrev failedOnce (n : Nat) (x : UnitRec) : UnitRec :=
  { x with free := x.free + n, failures := x.failures + 1, op := none }

abbrev failedEighth (n : Nat) (x : UnitRec) : UnitRec :=
  { x with state := .faulted, free := x.free + n, failures := 8, op := none }

/-- The attempt's operation ended, its extents back, its failure counted (R75, R84). -/
def counted (u n cause : Nat) (s : State) : State :=
  if (unitAt s u).failures < 7 then { s with units := s.units.modify u (failedOnce n) }
  else raise .unitFaulted (.unit u) [Wire.u8 1, .u8 (cause - 1)] { s with units := s.units.modify u (failedEighth n) }

theorem counted_keeps (u n cause : Nat) (s : State) :
    (counted u n cause s).queue = s.queue ∧ (counted u n cause s).free = s.free
      ∧ (counted u n cause s).reads = s.reads ∧ (counted u n cause s).editions = s.editions
      ∧ (counted u n cause s).photos = s.photos := by
  unfold counted
  split <;> simp

theorem unitAt_counted {s : State} {u : Nat} (hu : u < s.units.length) (n cause : Nat) :
    unitAt (counted u n cause s) u
      = if (unitAt s u).failures < 7 then failedOnce n (unitAt s u) else failedEighth n (unitAt s u) := by
  unfold counted
  split
  · exact unitAt_modify hu rfl
  · exact unitAt_modify hu (by simp)

/-- Only ERROR and EXPIRED end a write; a mismatch is a read's. -/
theorem faultCause_eq {cause : Nat} (hc : cause = 2 ∨ cause = 3) (s : State) : faultCause s cause = cause - 1 := by
  rcases hc with rfl | rfl <;> rfl

theorem countFree_eq {cause : Nat} (hc : cause = 2 ∨ cause = 3) (s : State) : countFree cause s = s := by
  rcases hc with rfl | rfl <;> rfl

/-- A unit after a failed attempt as the model counts it: the failures stop at 8 (R75). -/
abbrev failedCapped (n : Nat) (x : UnitRec) : UnitRec :=
  { x with free := x.free + n, failures := min 8 (x.failures + 1), op := none }

/-- The failures a failed attempt leaves a unit with are 8 exactly when it had 7 or more. -/
theorem failedCapped_eighth (u n : Nat) (s : State) :
    (unitAt { s with units := s.units.modify u (failedCapped n) } u).failures = 8 ↔ ¬ (unitAt s u).failures < 7 := by
  by_cases hu : u < s.units.length
  · rw [unitAt_modify hu rfl]
    simp only
    omega
  · have hle := Nat.not_lt.mp hu
    rw [unitAt_of_le hle, unitAt_of_le (by simpa using hle)]
    decide

theorem countFailure_eq {cause : Nat} (hc : cause = 2 ∨ cause = 3) (u n : Nat) (s : State) :
    countFailure u kindWrite cause (modifyUnit u (fun x => { x with free := x.free + n }) (endOperation u s))
      = counted u n cause s := by
  have hcapped : modifyUnit u (fun x => { x with failures := min 8 (x.failures + 1) })
      (modifyUnit u (fun x => { x with free := x.free + n }) (endOperation u s))
        = { s with units := s.units.modify u (failedCapped n) } := by
    simp only [endOperation, modifyUnit, List.modify_modify_eq]
    rfl
  unfold countFailure counted
  simp only [hcapped, faultCause_eq hc, countFree_eq hc, failedCapped_eighth, ite_not]
  split
  · next hf =>
    rw [modify_unit_congr (f := failedCapped n) (g := failedOnce n)
      (by simp only [failedCapped, failedOnce, Nat.min_eq_right (Nat.succ_le_succ (Nat.le_of_lt hf))])]
  · next hf =>
    simp only [modifyUnit, List.modify_modify_eq]
    rw [modify_unit_congr (g := failedEighth n)
      (by simp only [Function.comp, failedEighth,
        Nat.min_eq_left (Nat.succ_le_succ (Nat.not_lt.mp hf))])]
    rfl

/-- The reads that fail with the unit's fault (R75, R89). -/
def failingReads (s : State) (u : Nat) : List Task :=
  if 7 ≤ (unitAt s u).failures ∨ (unitAt s u).state = .faulted then (waitingOwners s u).map .failAtOnce else []

theorem faultTasks_counted (u n cause : Nat) (s : State) : faultTasks (counted u n cause s) u = failingReads s u := by
  obtain ⟨-, -, hreads, -⟩ := counted_keeps u n cause s
  have howners : waitingOwners (counted u n cause s) u = waitingOwners s u := by
    simp only [waitingOwners, hreads]
  have hstate : (unitAt (counted u n cause s) u).state = .faulted
      ↔ 7 ≤ (unitAt s u).failures ∨ (unitAt s u).state = .faulted := by
    by_cases hu : u < s.units.length
    · rw [unitAt_counted hu]
      split <;> simp <;> omega
    · have hs := unitAt_of_le (Nat.not_lt.mp hu)
      have hlen : (counted u n cause s).units.length = s.units.length := by
        unfold counted
        split <;> simp
      rw [hs, unitAt_of_le (by omega)]
      decide
  simp only [faultTasks, failingReads, howners, hstate]

/-! ### What the third attempt's failure leaves (R84) -/

/-- The entry gone with its place and its slabs. -/
abbrev gone (e : Entry) (s t : State) : State :=
  { t with queue := s.queue.filter fun x => decide (x.subject ≠ e.subject), free := s.free + e.slabs.length }

theorem setEntryContent_keeps (x : EntrySubject) (st : ContentState) (s : State) :
    (setEntryContent x st s).queue = s.queue ∧ (setEntryContent x st s).free = s.free
      ∧ (setEntryContent x st s).units = s.units := by
  cases x <;> simp [setEntryContent, EntrySubject.record]

/-- The job that fails with its restored copy's commit (R125). -/
def failedJob : EntrySubject → List Task
  | .plate _ => []
  | .photo _ => []
  | .restored j => [.failJob j .commitFailed .restoreFailed]

theorem commitFailed_tasks (e : Entry) (cause : Nat) (s : State) : (commitFailed e cause s).2 = failedJob e.subject := by
  simp only [commitFailed]
  cases e.subject <;> rfl

/-- An attempt that failed, by its number. -/
theorem attemptFailed_eq {s : State} {e : Entry} (h : findEntry s e.subject = some e) {cause : Nat}
    (hc : cause = 2 ∨ cause = 3) (u : Nat) :
    attemptFailed u e cause s =
      if e.attempts < 3 then
        drain (failingReads s u) (setEntryContent e.subject .queued { counted u e.extents cause s with
          queue := s.queue.map fun x => if x.subject = e.subject then { x with inFlight := none } else x })
      else
        drain (failedJob e.subject ++ failingReads s u)
          (closeFailedBy e.subject (raiseFailed e.subject e.tried cause
            (gone e s (setEntryContent e.subject .failed (counted u e.extents cause s))))) := by
  obtain ⟨hqueue, hfree, -⟩ := counted_keeps u e.extents cause s
  obtain ⟨hqueue', hfree', -⟩ := setEntryContent_keeps e.subject .failed (counted u e.extents cause s)
  unfold attemptFailed
  simp only [countFailure_eq hc, faultTasks_counted]
  split
  · simp only [List.nil_append, modifyEntry, hqueue]
  · rw [commitFailed_tasks]
    simp only [commitFailed]
    rw [removeEntry_found (e := e) ((congrFun (findEntry_congr (hqueue'.trans hqueue)) _).trans h), hfree', hfree,
      hqueue', hqueue]

theorem raiseFailed_eq {cause : Nat} (hc : cause = 2 ∨ cause = 3) {x : EntrySubject} {y : Subject} (hx : x.record = some y)
    (tried : List Nat) (t : State) :
    raiseFailed x tried cause t = raise .contentFailed y.notice [memberBits tried, .u8 (cause - 1)] t := by
  unfold raiseFailed
  rw [hx]
  rcases hc with rfl | rfl <;> rfl

theorem raiseFailed_keeps (x : EntrySubject) (tried : List Nat) (cause : Nat) (t : State) :
    (raiseFailed x tried cause t).units = t.units ∧ (raiseFailed x tried cause t).queue = t.queue
      ∧ (raiseFailed x tried cause t).photos = t.photos ∧ (raiseFailed x tried cause t).editions = t.editions := by
  cases x <;> simp [raiseFailed, EntrySubject.record]

/-- The close given up for a plate whose edition is there (R64). -/
theorem closeFailedBy_plate {t : State} {r : PlateRef} {x : Edition} (h : findEdition t r.day r.index = some x) :
    closeFailedBy (.plate r) t = if x.isClosing = true then
      raise .closeFailed (.edition r.day r.index) [.u8 1, .u8 r.page, .u8 r.plate]
        (setEditionState r.day r.index .opened t)
    else t := by
  simp only [closeFailedBy, h, reasonPlateFailed]

/-- A close given up changes nothing but its edition's state, and raises a notice. -/
theorem closeFailedBy_leaves (x : EntrySubject) (t : State) :
    (closeFailedBy x t).units = t.units ∧ (closeFailedBy x t).queue = t.queue ∧ (closeFailedBy x t).photos = t.photos
      ∧ findPlate (closeFailedBy x t) = findPlate t := by
  unfold closeFailedBy
  split
  · next r =>
    split
    · exact ⟨rfl, rfl, rfl, rfl⟩
    · split
      · simp only [raise_keeps]
        exact ⟨by simp [setEditionState], by simp [setEditionState], by simp [setEditionState],
          (findPlate_congr (by simp)).trans (findPlate_setEditionState r.day r.index .opened t)⟩
      · exact ⟨rfl, rfl, rfl, rfl⟩
  · exact ⟨rfl, rfl, rfl, rfl⟩

/-- A record's new state does not look at the units, the queue or the notices. -/
theorem setEntryContent_congr {s t : State} (he : t.editions = s.editions) (hp : t.photos = s.photos) (x : EntrySubject)
    (st : ContentState) :
    (setEntryContent x st t).editions = (setEntryContent x st s).editions
      ∧ (setEntryContent x st t).photos = (setEntryContent x st s).photos := by
  cases x <;> simp [setEntryContent, EntrySubject.record, setContent, modifyPlate, he, hp]

/-! ### What all of the work leaves -/

/-- The unit's standing is that of the failure counted, whichever attempt it was. -/
theorem attemptFailed_unit {s : State} {e : Entry} (h : findEntry s e.subject = some e) {cause : Nat}
    (hc : cause = 2 ∨ cause = 3) (u v : Nat) :
    standing (unitAt (attemptFailed u e cause s) v) = standing (unitAt (counted u e.extents cause s) v) := by
  rw [attemptFailed_eq h hc]
  split <;> rw [(kept_drain _ _).unit v] <;> congr 1
  · rw [unitAt_congr (setEntryContent_keeps _ _ _).2.2]
    rfl
  · rw [unitAt_congr ((closeFailedBy_leaves _ _).1.trans (raiseFailed_keeps _ _ _ _).1)]
    exact congrFun (unitAt_congr (setEntryContent_keeps _ _ _).2.2) v

/-- A third attempt that failed leaves no entry and the record FAILED (R84). -/
theorem attemptFailed_leaves {s : State} {e : Entry} (h : findEntry s e.subject = some e) {cause : Nat}
    (hc : cause = 2 ∨ cause = 3) (u : Nat) (hthird : 3 ≤ e.attempts) :
    ((∀ k, e.subject ≠ .restored k) → findEntry (attemptFailed u e cause s) e.subject = none)
    ∧ (∀ r, (findPlate (attemptFailed u e cause s) r).map storage
        = (findPlate (setEntryContent e.subject .failed s) r).map storage)
    ∧ (attemptFailed u e cause s).photos = (setEntryContent e.subject .failed s).photos := by
  obtain ⟨-, -, -, heditions, hphotos⟩ := counted_keeps u e.extents cause s
  obtain ⟨hfailed, hfailed'⟩ := setEntryContent_congr heditions hphotos e.subject .failed
  rw [attemptFailed_eq h hc, if_neg (Nat.not_lt.mpr hthird)]
  generalize setEntryContent e.subject .failed (counted u e.extents cause s) = w at *
  have hclosed := closeFailedBy_leaves e.subject (raiseFailed e.subject e.tried cause (gone e s w))
  obtain ⟨-, hqueue, hphotos, heditions⟩ := raiseFailed_keeps e.subject e.tried cause (gone e s w)
  rw [hqueue, hphotos, findPlate_congr heditions] at hclosed
  generalize closeFailedBy e.subject _ = v at hclosed ⊢
  obtain ⟨-, hqueue, hphotos, hplates⟩ := hclosed
  refine ⟨fun hx => ?_, fun r => ?_, (drain_keeps _ v).1.trans (hphotos.trans hfailed')⟩
  · rw [(kept_drain _ v).entries e.subject hx, findEntry_filter hqueue]
  · refine ((kept_drain _ v).plates r).trans ?_
    rw [hplates, findPlate_congr (t := gone e s w) hfailed]
    rfl

/-- The first and second attempt of the failure, when no read fails with it. -/
theorem attemptFailed_quiet {s : State} {e : Entry} (h : findEntry s e.subject = some e) {cause : Nat}
    (hc : cause = 2 ∨ cause = 3) {u : Nat} (hattempts : e.attempts < 3) (hfailures : (unitAt s u).failures < 7)
    (hstate : (unitAt s u).state ≠ .faulted) :
    attemptFailed u e cause s = drain [] { setEntryContent e.subject .queued s with
      queue := s.queue.map fun x => if x.subject = e.subject then { x with inFlight := none } else x
      units := s.units.modify u (failedOnce e.extents) } := by
  have hreads : failingReads s u = [] := by
    rw [failingReads, if_neg]
    rintro (hf | hf)
    · omega
    · exact hstate hf
  rw [attemptFailed_eq h hc, if_pos hattempts, hreads, counted, if_pos hfailures]
  cases e.subject <;> rfl

/-- Settles O36: the ERROR that ends an attempt by what it leaves, then a failed attempt as an equation by its number and
its subject. -/
theorem writeErrorRetriesThenFails : Obligations.WriteErrorRetriesThenFails := by
  have hcause : causeError = 2 ∨ causeError = 3 := .inl rfl
  refine ⟨fun u op s => ⟨fun h => writeVerifyError_discarded (writeAt_stale h), fun e he => ?_⟩,
    fun u e cause s hentry hc => ?_⟩
  · obtain ⟨hu, hentry⟩ := of_writeAt he
    rw [writeVerifyError_ends he]
    refine ⟨rfl, fun ha hf hst => ?_, fun hthird => ⟨_, rfl, fun r p hr hp => ?_, fun n p hn hp => ?_⟩,
      fun hf => ⟨_, rfl, ?_⟩⟩
    · rw [attemptFailed_quiet hentry hcause ha hf hst]
    · obtain ⟨hgone, hplates, -⟩ := attemptFailed_leaves hentry hcause u hthird
      refine ⟨hr ▸ hgone (by simp [hr]), ?_⟩
      have hfailed := hplates r
      rw [hr] at hfailed
      change _ = (findPlate (modifyPlate r _ s) r).map storage at hfailed
      rw [findPlate_modifyPlate_self, hp] at hfailed
      obtain ⟨q, hq, hview⟩ := Option.map_eq_some_iff.mp hfailed
      simp only [storage, Prod.mk.injEq] at hview
      exact ⟨q, hq, hview.1⟩
    · obtain ⟨hgone, -, hphotos⟩ := attemptFailed_leaves hentry hcause u hthird
      refine ⟨hn ▸ hgone (by simp [hn]), ?_⟩
      rw [findPhoto_congr hphotos, hn]
      exact ⟨_, findPhoto_modifyPhoto (f := fun p => { p with state := .failed }) (fun _ => rfl) hp, rfl⟩
    · have hstanding := attemptFailed_unit hentry hcause u u
      rw [unitAt_counted hu, if_neg (Nat.not_lt.mpr hf)] at hstanding
      simp only [standing, Prod.mk.injEq] at hstanding
      obtain ⟨hstate, -, -, hop⟩ := hstanding
      exact ⟨hstate, by simpa using hop⟩
  · intro f v reads gone' notice
    have hv : v = counted u e.extents cause s := rfl
    have hreads : reads = failingReads s u := rfl
    rw [attemptFailed_eq hentry hc]
    refine ⟨fun ha => by rw [if_pos ha, hv, hreads], fun hthird => ?_⟩
    rw [if_neg (Nat.not_lt.mpr hthird)]
    refine ⟨fun r x hr hx => ?_, fun n hn => ?_, fun n hn => ?_⟩
    · intro t
      have hfind : findEdition t r.day r.index = some (inEdition r (fun p => { p with state := .failed }) x) := by
        rw [findEdition_congr (raise_keeps _ _ _ _).1]
        refine findEdition_modifyEdition_self (f := inEdition r _) (fun _ => ⟨rfl, rfl⟩) ?_
        obtain ⟨-, -, -, heditions, -⟩ := counted_keeps u e.extents cause s
        rw [hv, findEdition_congr heditions]
        exact hx
      have ht : raiseFailed (.plate r) e.tried cause
          (gone e s (setEntryContent (.plate r) .failed (counted u e.extents cause s))) = t :=
        raiseFailed_eq hc (x := .plate r) (y := .plate r) rfl e.tried _
      rw [hr, ht, closeFailedBy_plate hfind, setEditionState_eq]
      rfl
    · rw [hn, raiseFailed_eq hc (x := .photo n) rfl]
      rfl
    · rw [hn]
      rfl

end Sys2Proof.Machine.WriteFailLaws
end

section
/-! The settings of the store, commit limit, notice filter, profiles and tariff: the work of a step leaves them alone, and so
does every request but their own (R87, R111, R112, R168, R204). -/

namespace Sys2Proof.Machine.SettingsLaws
open Sys2Proof Sys2Proof.Machine Sys2Proof.Machine.SlotLaws

/-- The settings of t are those of s. -/
@[simp] abbrev SameSettings (s t : State) : Prop :=
  t.commitLimit = s.commitLimit ∧ t.filter = s.filter ∧ t.profiles = s.profiles ∧ t.tariff = s.tariff

/-! ### What the operations leave alone -/

theorem foldl_settings {α : Type} {f : State → α → State} (hf : ∀ s a, SameSettings s (f s a)) (l : List α) (s : State) :
    SameSettings s (l.foldl f s) := by
  induction l generalizing s with
  | nil => simp
  | cons a l ih => simpa [hf s a] using ih (f s a)

@[simp] theorem drainTally_settings (l : List Task) (s : State) : SameSettings s (drainTally l s).state := by
  simp [drain_is_tally]

@[simp] theorem freeTicketsOn_settings (x : Subject) (s : State) : SameSettings s (freeTicketsOn x s) :=
  foldl_settings (fun s t => by simp) _ s

@[simp] theorem suppressJob_settings (r : PlateRef) (s : State) : SameSettings s (suppressJob r s) := by
  unfold suppressJob
  split <;> simp

@[simp] theorem withdrawFromService_settings (r : PlateRef) (s : State) : SameSettings s (withdrawFromService r s) := by
  unfold withdrawFromService
  dsimp only
  split <;> simp

@[simp] theorem filePhotoRecord_settings (r : FilePhotoReq) (s : State) : SameSettings s (filePhotoRecord r s) := by
  unfold filePhotoRecord
  split <;> simp

@[simp] theorem giveBackPhoto_settings (p : Photo) (s : State) : SameSettings s (giveBackPhoto p s) := by
  unfold giveBackPhoto
  (repeat' split) <;> simp

@[simp] theorem queueSlot_settings (k : Nat) (x : Slot) (s : State) : SameSettings s (queueSlot k x s) := by
  simp [queueSlot]

@[simp] theorem stallRecord_settings (k : Nat) (x : Slot) (s : State) : SameSettings s (stallRecord k x s).1 := by
  unfold stallRecord
  (repeat' split) <;> simp

@[simp] theorem setEditionState_settings (d i : Nat) (st : EditionState) (s : State) :
    SameSettings s (setEditionState d i st s) := by simp [setEditionState]

@[simp] theorem closeNow_settings (e : Edition) (s : State) : SameSettings s (closeNow e s) := by simp [closeNow]

@[simp] theorem setEntryContent_settings (x : EntrySubject) (st : ContentState) (s : State) :
    SameSettings s (setEntryContent x st s) := by
  unfold setEntryContent
  split <;> simp

@[simp] theorem endOperation_settings (u : Nat) (s : State) : SameSettings s (endOperation u s) := by
  simp [endOperation]

@[simp] theorem clearFailures_settings (u : Nat) (s : State) : SameSettings s (clearFailures u s) := by
  simp [clearFailures]

@[simp] theorem countFailure_settings (u kind cause : Nat) (s : State) :
    SameSettings s (countFailure u kind cause s) := by
  unfold countFailure countFree
  dsimp only
  (repeat' split) <;> simp

@[simp] theorem storeSubject_settings (x : EntrySubject) (l : Location) (s : State) :
    SameSettings s (storeSubject x l s) := by
  cases x <;> simp [storeSubject]

@[simp] theorem raiseStored_settings (x : EntrySubject) (u n : Nat) (s : State) :
    SameSettings s (raiseStored x u n s) := by
  unfold raiseStored
  split <;> simp

@[simp] theorem raiseFailed_settings (x : EntrySubject) (l : List Nat) (c : Nat) (s : State) :
    SameSettings s (raiseFailed x l c s) := by
  unfold raiseFailed
  split <;> simp

@[simp] theorem closeIfStored_settings (x : EntrySubject) (s : State) : SameSettings s (closeIfStored x s) := by
  unfold closeIfStored
  (repeat' split) <;> simp

@[simp] theorem closeFailedBy_settings (x : EntrySubject) (s : State) : SameSettings s (closeFailedBy x s) := by
  unfold closeFailedBy
  (repeat' split) <;> simp

@[simp] theorem beginAttempt_settings (u : Nat) (e : Entry) (s : State) : SameSettings s (beginAttempt u e s) := by
  simp [beginAttempt]

@[simp] theorem attemptDone_settings (u start : Nat) (e : Entry) (s : State) :
    SameSettings s (attemptDone u start e s) := by
  simp [attemptDone, writeDone]

@[simp] theorem attemptFailed_settings (u : Nat) (e : Entry) (cause : Nat) (s : State) :
    SameSettings s (attemptFailed u e cause s) := by
  unfold attemptFailed
  dsimp only
  split <;> simp [commitFailed]

@[simp] theorem sendRead_settings (u : Nat) (r : Read) (n : Nat) (s : State) : SameSettings s (sendRead u r n s) := by
  simp [sendRead]

@[simp] theorem markReading_settings (o : Owner) (s : State) : SameSettings s (markReading o s) := by
  cases o <;> simp [markReading]

@[simp] theorem tryFailed_settings (u : Nat) (r : Read) (n cause : Nat) (s : State) :
    SameSettings s (tryFailed u r n cause s) := by
  unfold tryFailed readFailed
  dsimp only
  split <;> simp

@[simp] theorem landed_settings (r : Read) (b : List Byte) (s : State) : SameSettings s (landed r b s) := by
  unfold landed
  dsimp only
  (repeat' split) <;> simp

@[simp] theorem readAnswered_settings (u : Nat) (r : Read) (n : Nat) (a : Option (List Byte)) (s : State) :
    SameSettings s (readAnswered u r n a s) := by
  unfold readAnswered
  dsimp only
  (repeat' split) <;> simp

@[simp] theorem orphanEnded_settings (u : Nat) (ok : Bool) (s : State) : SameSettings s (orphanEnded u ok s) := by
  cases ok <;> simp [orphanEnded]

@[simp] theorem operationExpired_settings (u : Nat) (w : Work) (s : State) :
    SameSettings s (operationExpired u w s) := by
  unfold operationExpired
  dsimp only
  (repeat' split) <;> simp

@[simp] theorem endRepair_settings (j : Job) (s : State) : SameSettings s (endRepair j s) := by simp [endRepair]

@[simp] theorem writeTile_settings (j : Job) (n : Nat) (s : State) : SameSettings s (writeTile j n s) := by
  simp [writeTile]

@[simp] theorem endStream_settings (l : List OutFrame) (s : State) : SameSettings s (endStream l s) := by
  simp [endStream]

@[simp] theorem collectItem_settings (o i : Nat) (s : State) : SameSettings s (collectItem o i s) := by
  unfold collectItem
  split <;> simp

@[simp] theorem advanceBase_settings (s : State) : SameSettings s (advanceBase s) := by
  unfold advanceBase
  dsimp only
  split <;> simp

@[simp] theorem tick_settings (s : State) : SameSettings s (tick s) := by
  unfold tick advanceDate
  dsimp only
  (repeat' split) <;> simp

@[simp] theorem receiveData_settings (tag : Nat) (body : List Byte) (s : State) :
    SameSettings s (receiveData tag body s) := by
  unfold receiveData fillSlot
  (repeat' split) <;> simp

@[simp] theorem handOn_settings (kind tag code : Nat) (body : List Byte) (s : State) :
    SameSettings s (handOn kind tag code body s) := by
  unfold handOn
  (repeat' split) <;> simp

@[simp] theorem receiveByte_settings (s : State) (x : Byte) : SameSettings s (receiveByte s x) := by
  unfold receiveByte readingByte frameWhole
  dsimp only
  (repeat' split) <;> simp

@[simp] theorem receive_settings (b : List Byte) (s : State) : SameSettings s (receive b s) :=
  foldl_settings receiveByte_settings b s

/-! ### Resets and start-up (R216) -/

@[simp] theorem hardReset_settings (cause : ResetCause) (s : State) : SameSettings s (hardReset cause s) := by
  simp [hardReset, discardVolatile]

@[simp] theorem startIfFree_settings (s : State) : SameSettings s (startIfFree s) := by
  unfold startIfFree
  split <;> simp [startUp, recoveryPass]

@[simp] theorem linkTakesEffect_settings (s : State) : SameSettings s (linkTakesEffect s) := by
  simp [linkTakesEffect, relinkUnits, recoveryPass, discardVolatile, abortBusy]

@[simp] theorem raiseStarted_settings (s : State) : SameSettings s (raiseStarted s) := by simp [raiseStarted]

@[simp] theorem settleUnit_settings (u : Nat) (x : UnitRec) (s : State) : SameSettings s (settleUnit u x s) := by
  unfold settleUnit readyIfSettled
  split <;> simp

/-! ### What the requests' own rules leave alone -/

/-- The rule leaves the settings as they were. -/
abbrev KeepsSettings {α : Type} (act : α → State → Checked) : Prop := ∀ f s, Leaves (SameSettings s) (act f s)

theorem openEdition_keepsSettings : KeepsSettings openEdition := fun _ _ =>
  leaves_bind fun _ => leaves_bind fun _ => leaves_bind fun _ => leaves_bind fun _ => leaves_bind fun _ =>
    leaves_bind fun _ => leaves_done (by simp)

theorem dropEdition_keepsSettings : KeepsSettings dropEdition := fun _ _ =>
  leaves_bind fun _ => leaves_bind fun _ => leaves_done (by simp)

theorem editionInfo_keepsSettings : KeepsSettings editionInfo := fun _ _ =>
  leaves_bind fun _ => leaves_done (by simp)

theorem pageInfo_keepsSettings : KeepsSettings pageInfo := fun _ _ =>
  leaves_bind fun _ => leaves_bind fun _ => leaves_done (by simp)

theorem plateInfo_keepsSettings : KeepsSettings plateInfo := fun _ _ => leaves_bind fun _ => leaves_done (by simp)

theorem armSuppression_keepsSettings : KeepsSettings armSuppression := fun _ _ =>
  leaves_bind fun _ => leaves_bind fun _ => leaves_bind fun _ => leaves_bind fun _ => leaves_done (by simp)

theorem suppress_keepsSettings (a : Option Arm) : KeepsSettings (suppress a) := fun _ _ =>
  leaves_bind fun _ => leaves_bind fun _ => leaves_done (by simp [suppressPlate])

theorem filePhoto_keepsSettings : KeepsSettings filePhoto := fun _ _ =>
  leaves_bind fun _ => leaves_bind fun _ => leaves_bind fun _ => leaves_bind fun _ => leaves_done (by simp)

theorem setRights_keepsSettings : KeepsSettings setRights := fun _ _ =>
  leaves_bind fun _ => leaves_bind fun _ => leaves_done (by simp)

theorem barPhoto_keepsSettings : KeepsSettings barPhoto := fun _ _ => leaves_bind fun _ => leaves_done (by simp)

theorem unbarPhoto_keepsSettings : KeepsSettings unbarPhoto := fun _ _ => leaves_bind fun _ => leaves_done (by simp)

theorem removePhoto_keepsSettings : KeepsSettings removePhoto := fun _ _ =>
  leaves_bind fun _ => leaves_bind fun _ => leaves_bind fun _ => leaves_bind fun _ => leaves_done (by simp)

theorem photoInfo_keepsSettings : KeepsSettings photoInfo := fun _ _ => leaves_bind fun _ => leaves_done (by simp)

theorem deposit_keepsSettings : KeepsSettings deposit := fun _ _ =>
  leaves_bind fun _ => leaves_bind fun _ => leaves_bind fun _ => leaves_bind fun _ => leaves_bind fun _ =>
    leaves_bind fun _ => leaves_bind fun _ => leaves_done (by simp)

theorem redeposit_keepsSettings : KeepsSettings redeposit := fun _ _ =>
  leaves_bind fun _ => leaves_bind fun _ => leaves_bind fun _ => leaves_bind fun _ => leaves_bind fun _ =>
    leaves_bind fun _ => leaves_bind fun _ => leaves_done (by simp [replaceUses])

theorem depositEnd_keepsSettings : KeepsSettings depositEnd := fun _ _ => leaves_bind fun _ => leaves_bind fun _ => by
  split <;> exact leaves_done (by simp)

theorem withdrawPlate_keepsSettings : KeepsSettings withdrawPlate := fun _ _ =>
  leaves_bind fun _ => leaves_bind fun _ => leaves_bind fun _ => leaves_bind fun _ => leaves_bind fun _ =>
    leaves_done (by simp)

theorem closeEdition_keepsSettings : KeepsSettings closeEdition := fun _ _ =>
  leaves_bind fun _ => leaves_bind fun _ => leaves_bind fun _ => by
    (repeat' split) <;> simp [Leaves]

theorem unitState_keepsSettings : KeepsSettings unitState := fun _ _ =>
  leaves_bind fun _ => leaves_bind fun _ => leaves_bind fun _ => leaves_done (by simp)

theorem changeHold_keepsSettings (on : Bool) : KeepsSettings (changeHold on) := fun _ _ =>
  leaves_bind fun _ => leaves_done (by simp)

theorem fetchContent_keepsSettings (tag : Nat) : KeepsSettings (fetchContent tag) := fun _ _ =>
  leaves_bind fun _ => leaves_bind fun _ => leaves_bind fun _ => by
    unfold fetchTicket
    (repeat' split) <;> simp [Leaves, deliverTicket, createTicket]

theorem restorePlate_keepsSettings : KeepsSettings restorePlate := fun _ _ =>
  leaves_bind fun _ => leaves_bind fun _ => leaves_bind fun _ => leaves_bind fun _ => leaves_bind fun _ =>
    leaves_bind fun _ => by
      (repeat' split) <;> simp [Leaves, joinJob, createJob, addJob]

theorem jobInfo_keepsSettings : KeepsSettings jobInfo := fun _ _ => by
  unfold jobInfo
  (repeat' split) <;> simp [Leaves]

theorem cancelJob_keepsSettings : KeepsSettings cancelJob := fun _ _ =>
  leaves_bind fun _ => leaves_bind fun _ => leaves_bind fun _ => leaves_done (by simp)

theorem placeOrder_keepsSettings : KeepsSettings placeOrder := fun _ _ =>
  leaves_bind fun _ => leaves_bind fun _ => leaves_bind fun _ => leaves_bind fun _ => leaves_bind fun _ =>
    leaves_bind fun _ => leaves_bind fun _ => by
      dsimp only
      split <;> simp [Leaves, acceptOrder]

theorem orderInfo_keepsSettings : KeepsSettings orderInfo := fun n _ => by
  cases n with
  | none => exact leaves_done (by simp)
  | some n => exact leaves_bind fun _ => leaves_bind fun _ => leaves_done (by simp)

theorem collect_keepsSettings (tag : Nat) : KeepsSettings (collect tag) := fun _ _ => by
  unfold collect
  refine leaves_bind fun _ => leaves_bind fun _ => leaves_bind fun x => ?_
  cases x.state <;> simp [Leaves, deliverItem]

theorem cancelOrder_keepsSettings : KeepsSettings cancelOrder := fun _ _ =>
  leaves_bind fun _ => leaves_bind fun _ => leaves_done (by simp)

theorem openAccount_keepsSettings : KeepsSettings openAccount := fun _ _ =>
  leaves_bind fun _ => leaves_bind fun _ => leaves_bind fun _ => leaves_done (by simp)

theorem creditAccount_keepsSettings : KeepsSettings creditAccount := fun _ _ =>
  leaves_bind fun _ => leaves_bind fun _ => leaves_bind fun _ => leaves_bind fun _ => leaves_done (by simp)

theorem limitAccount_keepsSettings : KeepsSettings limitAccount := fun _ _ =>
  leaves_bind fun _ => leaves_bind fun _ => leaves_bind fun _ => leaves_bind fun _ => leaves_done (by simp)

theorem setAccountState_keepsSettings : KeepsSettings setAccountState := fun _ _ =>
  leaves_bind fun _ => leaves_bind fun _ => leaves_bind fun _ => leaves_done (by simp)

theorem accountInfo_keepsSettings : KeepsSettings accountInfo := fun _ _ =>
  leaves_bind fun _ => leaves_bind fun _ => leaves_done (by simp)

theorem setHolder_keepsSettings : KeepsSettings setHolder := fun _ _ =>
  leaves_bind fun _ => leaves_bind fun _ => leaves_done (by simp [modifyHolder])

theorem payHolder_keepsSettings : KeepsSettings payHolder := fun _ _ =>
  leaves_bind fun _ => leaves_bind fun _ => leaves_bind fun _ => leaves_done (by simp [modifyHolder])

theorem revenueInfo_keepsSettings : KeepsSettings revenueInfo := fun n _ => by
  cases n with
  | none => exact leaves_done (by simp)
  | some n => exact leaves_bind fun _ => leaves_bind fun _ => leaves_done (by simp)

theorem takeNotices_keepsSettings : KeepsSettings takeNotices := fun _ _ => leaves_done (by simp)

theorem setDate_keepsSettings : KeepsSettings setDate := fun _ _ => leaves_bind fun _ => leaves_done (by simp)

end Sys2Proof.Machine.SettingsLaws
end

section
/-! Each setting of the store changes by its own request alone (R87, R111, R112, R168, R204). -/

namespace Sys2Proof.Machine.SettingsLaws
open Sys2Proof Sys2Proof.Machine Sys2Proof.Machine.SlotLaws

/-- What a command may change of the settings on the way from s to t: each one is its own request's to change. -/
def OwnChange (c : Instr) (s t : State) : Prop :=
  (t.commitLimit ≠ s.commitLimit → ∃ r, c = .setCommitLimit r)
    ∧ (t.filter ≠ s.filter → ∃ r, c = .setFilter r)
    ∧ (t.profiles ≠ s.profiles → (∃ r, c = .setProfile r) ∨ ∃ r, c = .toneTable r)
    ∧ (t.tariff ≠ s.tariff → ∃ r, c = .setTariff r)

theorem ownChange_of_same {s t : State} (c : Instr) (h : SameSettings s t) : OwnChange c s t := by
  obtain ⟨hlimit, hfilter, hprofiles, htariff⟩ := h
  exact ⟨absurd hlimit, absurd hfilter, absurd hprofiles, absurd htariff⟩

/-! ### The settings' own requests -/

theorem setCommitLimit_ownChange (r : Taken Nat) (n : Nat) (s : State) :
    Leaves (OwnChange (.setCommitLimit r) s) (setCommitLimit n s) :=
  leaves_bind fun _ => leaves_done ⟨fun _ => ⟨r, rfl⟩, absurd rfl, absurd rfl, absurd rfl⟩

theorem setFilter_ownChange (r : Taken FilterReq) (f : FilterReq) (s : State) :
    Leaves (OwnChange (.setFilter r) s) (setFilter f s) :=
  leaves_bind fun _ => leaves_bind fun _ => leaves_bind fun _ => leaves_bind fun _ => leaves_bind fun _ =>
    leaves_done ⟨absurd rfl, fun _ => ⟨r, rfl⟩, absurd rfl, absurd rfl⟩

theorem setProfile_ownChange (r : Taken ProfileReq) (f : ProfileReq) (s : State) :
    Leaves (OwnChange (.setProfile r) s) (setProfile f s) :=
  leaves_bind fun _ => leaves_bind fun _ => leaves_bind fun _ =>
    leaves_done ⟨absurd rfl, absurd rfl, fun _ => .inl ⟨r, rfl⟩, absurd rfl⟩

theorem setTone_ownChange (r : Taken ToneReq) (f : ToneReq) (s : State) :
    Leaves (OwnChange (.toneTable r) s) (setTone f s) :=
  leaves_bind fun _ => leaves_bind fun _ => leaves_done ⟨absurd rfl, absurd rfl, fun _ => .inr ⟨r, rfl⟩, absurd rfl⟩

theorem setTariff_ownChange (r : Taken TariffReq) (f : TariffReq) (s : State) :
    Leaves (OwnChange (.setTariff r) s) (setTariff f s) :=
  leaves_bind fun _ => leaves_done ⟨absurd rfl, absurd rfl, absurd rfl, fun _ => ⟨r, rfl⟩⟩

/-! ### The commands one by one -/

/-- The command's outcome is a state with no setting changed but what is the command's own. -/
abbrev EndsOwn (c : Instr) (s : State) (x : Answered) : Prop := ∃ t, x = .next t ∧ OwnChange c s t

theorem ends_settings {c : Instr} {s t : State} (h : SameSettings s t) : EndsOwn c s (.next t) :=
  ⟨t, rfl, ownChange_of_same c h⟩

/-- A request changes no setting by being taken or answered; its rule decides. -/
theorem ends_own {α : Type} {c : Instr} {r : Taken α} {act : α → State → Checked} {s : State}
    (hact : ∀ f t, Leaves (OwnChange c t) (act f t)) : EndsOwn c s (.next (request c r act s)) := by
  refine ⟨_, rfl, ?_⟩
  by_cases htakes : Takes c s
  · have htaken : OwnChange c s (taken s) := ownChange_of_same c (by simp)
    unfold request
    rw [takeRequest_takes htakes]
    dsimp only
    split
    · exact htaken
    · split
      · exact htaken
      · next f _ => exact leaves_answer (fun _ _ h => h) htaken (hact f (taken s))
  · rw [request_not_taken htakes]
    exact ownChange_of_same c (by simp)

theorem ends_kept {α : Type} {c : Instr} {r : Taken α} {act : α → State → Checked} {s : State}
    (hact : KeepsSettings act) : EndsOwn c s (.next (request c r act s)) :=
  ends_own fun f t => (hact f t).mono fun _ h => ownChange_of_same c h

theorem status_settings {c : Instr} (r : Taken Unit) (s : State) : EndsOwn c s (execStatus r s) := by
  refine ends_settings ?_
  by_cases htakes : Takes (.status r) s
  · rw [takeRequest_takes htakes]
    dsimp only
    split <;> simp
  · simp [takeRequest_not htakes]

theorem unknownRequest_settings (tag code : Nat) (s : State) :
    EndsOwn (.unknownRequest tag code) s (execUnknownRequest tag code s) := by
  unfold execUnknownRequest
  split
  · exact ends_settings (by simp)
  · exact ends_kept fun _ _ => leaves_refuse ..

theorem tileWritten_settings {c : Instr} (s : State) : EndsOwn c s (execTileWritten s) := by
  refine ends_settings ?_
  dsimp only
  (repeat' split) <;> simp

theorem ticketDeliveryEnd_settings {c : Instr} (s : State) : EndsOwn c s (execTicketDeliveryEnd s) := by
  refine ends_settings ?_
  dsimp only
  (repeat' split) <;> simp

/-- No command changes a setting that is not its own. -/
theorem ownChange_exec (c : Instr) (s : State) : EndsOwn c s (exec c s) := by
  cases c with
  | openEdition => exact ends_kept openEdition_keepsSettings
  | dropEdition => exact ends_kept dropEdition_keepsSettings
  | editionInfo => exact ends_kept editionInfo_keepsSettings
  | pageInfo => exact ends_kept pageInfo_keepsSettings
  | plateInfo => exact ends_kept plateInfo_keepsSettings
  | suppressArm => exact ends_kept armSuppression_keepsSettings
  | suppress => exact ends_kept (suppress_keepsSettings _)
  | filePhoto => exact ends_kept filePhoto_keepsSettings
  | setRights => exact ends_kept setRights_keepsSettings
  | barPhoto => exact ends_kept barPhoto_keepsSettings
  | unbarPhoto => exact ends_kept unbarPhoto_keepsSettings
  | removePhoto => exact ends_kept removePhoto_keepsSettings
  | photoInfo => exact ends_kept photoInfo_keepsSettings
  | deposit => exact ends_kept deposit_keepsSettings
  | redeposit => exact ends_kept redeposit_keepsSettings
  | depositEnd => exact ends_kept depositEnd_keepsSettings
  | withdrawPlate => exact ends_kept withdrawPlate_keepsSettings
  | closeEdition => exact ends_kept closeEdition_keepsSettings
  | unitList => exact ends_kept fun _ _ => leaves_done (by simp)
  | unitState => exact ends_kept unitState_keepsSettings
  | holdClass => exact ends_kept (changeHold_keepsSettings true)
  | releaseClass => exact ends_kept (changeHold_keepsSettings false)
  | setCommitLimit r => exact ends_own (setCommitLimit_ownChange r)
  | queueList => exact ends_kept fun _ _ => leaves_done (by simp)
  | fetch => exact ends_kept (fetchContent_keepsSettings _)
  | ticketList => exact ends_kept fun _ _ => leaves_done (by simp)
  | restore => exact ends_kept restorePlate_keepsSettings
  | jobInfo => exact ends_kept jobInfo_keepsSettings
  | cancelJob => exact ends_kept cancelJob_keepsSettings
  | setProfile r => exact ends_own (setProfile_ownChange r)
  | toneTable r => exact ends_own (setTone_ownChange r)
  | placeOrder => exact ends_kept placeOrder_keepsSettings
  | orderInfo => exact ends_kept orderInfo_keepsSettings
  | collect => exact ends_kept (collect_keepsSettings _)
  | cancelOrder => exact ends_kept cancelOrder_keepsSettings
  | setTariff r => exact ends_own (setTariff_ownChange r)
  | accountOpen => exact ends_kept openAccount_keepsSettings
  | accountCredit => exact ends_kept creditAccount_keepsSettings
  | accountLimit => exact ends_kept limitAccount_keepsSettings
  | accountState => exact ends_kept setAccountState_keepsSettings
  | accountInfo => exact ends_kept accountInfo_keepsSettings
  | holderSet => exact ends_kept setHolder_keepsSettings
  | holderPayout => exact ends_kept payHolder_keepsSettings
  | revenueInfo => exact ends_kept revenueInfo_keepsSettings
  | status r => exact status_settings r s
  | takeNotices => exact ends_kept takeNotices_keepsSettings
  | setFilter r => exact ends_own (setFilter_ownChange r)
  | reset => exact ends_kept fun _ _ => leaves_done (by simp)
  | setDate => exact ends_kept setDate_keepsSettings
  | unknownRequest tag code => exact unknownRequest_settings tag code s
  | requestFrame => exact ends_settings (receive_settings ..)
  | dataIn => exact ends_settings (receive_settings ..)
  | frameDiscard => exact ends_settings (receive_settings ..)
  | ticketDeliveryEnd => exact ticketDeliveryEnd_settings s
  | itemDeliveryEnd => exact ends_settings (by split <;> simp)
  | stallTimerExpiry => exact ends_settings (by (repeat' split) <;> simp)
  | ticketCollectExpiry => exact ends_settings (by (repeat' split) <;> simp)
  | itemCollectExpiry => exact ends_settings (by (repeat' split) <;> simp)
  | closeTimerExpiry => exact ends_settings (by (repeat' split) <;> simp)
  | armTimerExpiry => exact ends_settings (by (repeat' split) <;> simp)
  | operationLimitExpiry => exact ends_settings (by (repeat' split) <;> simp)
  | writeHoldExpiry => exact ends_settings (by (repeat' split) <;> simp)
  | timeBaseTick => exact ends_settings (tick_settings s)
  | timeWrap => exact ends_settings (by split <;> simp)
  | dayRoll => exact ends_settings (by split <;> simp)
  | commitGrant => exact ends_settings (by split <;> simp)
  | readGrant => exact ends_settings (by split <;> simp)
  | writeVerifyOk => exact ends_settings (by split <;> simp)
  | writeVerifyError => exact ends_settings (by split <;> simp)
  | readAnswer => exact ends_settings (by split <;> simp)
  | tileWritten => exact tileWritten_settings s
  | supplyLow => exact ends_settings (by split <;> simp)
  | supplyNormal => exact ends_settings (by split <;> simp)
  | brownoutReset => exact ends_settings (hardReset_settings .brownout s)
  | powerReset => exact ends_settings (hardReset_settings .power s)
  | supplyRecovered => exact ends_settings (by split <;> simp)
  | lineAssert => exact ends_settings (by split <;> simp)
  | lineRelease => exact ends_settings (by split <;> simp)
  | linkReset => exact ends_settings (by (repeat' split) <;> simp)
  | unitQueryAnswer => exact ends_settings (by split <;> simp)
  | queryLimitExpiry => exact ends_settings (by (repeat' split) <;> simp)

/-- Settles O8: a step runs the command at the front of the queue, which changes no setting but its own. -/
theorem settingsChangeByOwnRequestOnly : Obligations.SettingsChangeByOwnRequestOnly := by
  intro s t hstep
  unfold step at hstep
  split at hstep
  · cases hstep
    exact ⟨absurd rfl, absurd rfl, absurd rfl, absurd rfl⟩
  · next c rest hpending =>
    obtain ⟨u, hu, hlimit, hfilter, hprofiles, htariff⟩ := ownChange_exec c { s with pending := rest }
    cases hu.symm.trans hstep
    rw [hpending]
    refine ⟨fun h => ?_, fun h => ?_, fun h => ?_, fun h => ?_⟩
    · obtain ⟨r, rfl⟩ := hlimit h
      exact ⟨r, rest, rfl⟩
    · obtain ⟨r, rfl⟩ := hfilter h
      exact ⟨r, rest, rfl⟩
    · obtain ⟨r, rfl⟩ | ⟨r, rfl⟩ := hprofiles h
      · exact .inl ⟨r, rest, rfl⟩
      · exact .inr ⟨r, rest, rfl⟩
    · obtain ⟨r, rfl⟩ := htariff h
      exact ⟨r, rest, rfl⟩

end Sys2Proof.Machine.SettingsLaws
end


section
/-! The arbiter's choice and what COMMIT_GRANT and READ_GRANT send (R68, R72, R76, R77, R79, R80, R82, R88, R103, R215). -/

namespace Sys2Proof.Machine.GrantLaws
open Sys2Proof Sys2Proof.Machine

/-! ### Classes (R76) -/

/-- A commit is of class 0 or 2. -/
theorem entryClass_cases (s : State) (x : EntrySubject) : entryClass s x = 0 ∨ entryClass s x = 2 := by
  unfold entryClass
  split
  · split <;> simp
  · simp

/-- A read is of class 1 or 3, and of class 3 when its owner is an item or a job. -/
theorem cls_cases (o : Owner) : o.cls = 1 ∨ o.cls = 3 := by
  cases o <;> simp [Owner.cls]

theorem cls_eq_three_iff (o : Owner) : o.cls = 3 ↔ (∃ n i, o = .item n i) ∨ ∃ n, o = .job n := by
  cases o <;> simp [Owner.cls]

theorem isHeld_false_iff (s : State) (c : Nat) :
    isHeld s c = false ↔ (c = 2 → s.held2 = false) ∧ (c = 3 → s.held3 = false) := by
  simp [isHeld, imp_iff_not_or]

/-! ### What a unit can serve (R68, R79, R80, R88, R215) -/

theorem freshUnit_false_iff (s : State) (tried : List Nat) (n : Nat) :
    freshUnit s tried n = false ↔
      ∀ v, v < s.units.length → v ∉ tried → (unitAt s v).state = .online → (unitAt s v).free < n := by
  simp [freshUnit]

theorem canCommit_iff (s : State) (u : Nat) (e : Entry) :
    canCommit s u e = true ↔ e.inFlight = none ∧ (unitAt s u).state = .online ∧ e.extents ≤ (unitAt s u).free
      ∧ s.supply = .normal ∧ s.writeHold = none
      ∧ (entryClass s e.subject = 2 → s.held2 = false) ∧ (entryClass s e.subject = 3 → s.held3 = false)
      ∧ (e.attempts = 0 ∨ u ∉ e.tried
        ∨ ∀ v, v < s.units.length → v ∉ e.tried → (unitAt s v).state = .online → (unitAt s v).free < e.extents) := by
  simp only [canCommit, Bool.and_eq_true, Bool.or_eq_true, Bool.not_eq_true', decide_eq_true_eq, Option.isNone_iff_eq_none,
    isHeld_false_iff, freshUnit_false_iff]
  tauto

theorem canRead_iff (s : State) (u : Nat) (r : Read) :
    canRead s u r = true ↔ r.unit = u ∧ ((unitAt s u).state = .online ∨ (unitAt s u).state = .readOnly)
      ∧ ((∃ o i, r.owner = .item o i) ∨ (∃ n, r.owner = .job n) → s.held3 = false) := by
  have hcls : r.owner.cls ≠ 2 := by have := cls_cases r.owner; omega
  simp only [canRead, Bool.and_eq_true, Bool.not_eq_true', decide_eq_true_eq, isHeld_false_iff, cls_eq_three_iff, hcls,
    IsEmpty.forall_iff, true_and, and_assoc]

/-! ### The choice within a class (R77) -/

/-- The first entry of a class that the unit can serve. -/
theorem commitOf_eq_some {s : State} {u c : Nat} {e : Entry} (h : commitOf s u c = some (.commit e)) :
    entryClass s e.subject = c ∧ canCommit s u e = true
      ∧ ∃ a b, s.queue = a ++ e :: b ∧ ∀ f ∈ a, entryClass s f.subject = c → canCommit s u f = false := by
  simpa [commitOf, List.find?_eq_some_iff_append, and_assoc, imp_iff_not_or] using h

/-- The first read of a class that the unit can serve. -/
theorem readOfClass_eq_some {s : State} {u c : Nat} {r : Read} (h : readOfClass s u c = some (.read r)) :
    r.owner.cls = c ∧ canRead s u r = true
      ∧ ∃ a b, s.reads = a ++ r :: b ∧ ∀ q ∈ a, q.owner.cls = c → canRead s u q = false := by
  simpa [readOfClass, List.find?_eq_some_iff_append, and_assoc, imp_iff_not_or] using h

theorem commitOf_eq_none {s : State} {u c : Nat} :
    commitOf s u c = none ↔ ∀ e ∈ s.queue, entryClass s e.subject = c → canCommit s u e = false := by
  simp [commitOf]

theorem readOfClass_eq_none {s : State} {u c : Nat} :
    readOfClass s u c = none ↔ ∀ r ∈ s.reads, r.owner.cls = c → canRead s u r = false := by
  simp [readOfClass]

theorem commitOf_ne_read (s : State) (u c : Nat) (r : Read) : commitOf s u c ≠ some (.read r) := by
  simp [commitOf]

theorem readOfClass_ne_commit (s : State) (u c : Nat) (e : Entry) : readOfClass s u c ≠ some (.commit e) := by
  simp [readOfClass]

/-! ### The choice among the classes (R76) -/

theorem arbiterChoice_busy {s : State} {u : Nat} (h : (unitAt s u).op ≠ none) : arbiterChoice s u = none := by
  simp [arbiterChoice, Option.isSome_iff_ne_none.mpr h]

theorem arbiterChoice_idle {s : State} {u : Nat} (h : (unitAt s u).op = none) :
    arbiterChoice s u = (commitOf s u 0).or ((readOfClass s u 1).or ((commitOf s u 2).or (readOfClass s u 3))) := by
  simp [arbiterChoice, h]

theorem idle_of_choice {s : State} {u : Nat} {g : Grant} (h : arbiterChoice s u = some g) : (unitAt s u).op = none := by
  by_contra hop
  rw [arbiterChoice_busy hop] at h
  cases h

/-- A commit chosen is the first of its class, and nothing of a higher class can be served. -/
theorem arbiterChoice_commit {s : State} {u : Nat} {e : Entry} (h : arbiterChoice s u = some (.commit e)) :
    commitOf s u (entryClass s e.subject) = some (.commit e)
      ∧ (entryClass s e.subject = 0
        ∨ entryClass s e.subject = 2 ∧ commitOf s u 0 = none ∧ readOfClass s u 1 = none) := by
  rw [arbiterChoice_idle (idle_of_choice h)] at h
  simp only [Option.or_eq_some_iff, readOfClass_ne_commit, false_or, and_false, or_false] at h
  obtain h | ⟨h0, h1, h⟩ := h
  · obtain ⟨hclass, -⟩ := commitOf_eq_some h
    exact ⟨hclass ▸ h, .inl hclass⟩
  · obtain ⟨hclass, -⟩ := commitOf_eq_some h
    exact ⟨hclass ▸ h, .inr ⟨hclass, h0, h1⟩⟩

/-- A read chosen is the first of its class, and nothing of a higher class can be served. -/
theorem arbiterChoice_read {s : State} {u : Nat} {r : Read} (h : arbiterChoice s u = some (.read r)) :
    readOfClass s u r.owner.cls = some (.read r) ∧ commitOf s u 0 = none
      ∧ (r.owner.cls = 1 ∨ r.owner.cls = 3 ∧ readOfClass s u 1 = none ∧ commitOf s u 2 = none) := by
  rw [arbiterChoice_idle (idle_of_choice h)] at h
  simp only [Option.or_eq_some_iff, commitOf_ne_read, false_or] at h
  obtain ⟨h0, h | ⟨h1, h2, h⟩⟩ := h
  · obtain ⟨hclass, -⟩ := readOfClass_eq_some h
    exact ⟨hclass ▸ h, h0, .inl hclass⟩
  · obtain ⟨hclass, -⟩ := readOfClass_eq_some h
    exact ⟨hclass ▸ h, h0, .inr ⟨hclass, h1, h2⟩⟩

/-- An IDLE unit with no choice can serve nothing. -/
theorem arbiterChoice_none {s : State} {u : Nat} (h : arbiterChoice s u = none) (hop : (unitAt s u).op = none) :
    (∀ e ∈ s.queue, canCommit s u e = false) ∧ ∀ r ∈ s.reads, canRead s u r = false := by
  rw [arbiterChoice_idle hop] at h
  simp only [Option.or_eq_none_iff, commitOf_eq_none, readOfClass_eq_none] at h
  obtain ⟨h0, h1, h2, h3⟩ := h
  refine ⟨fun e he => ?_, fun r hr => ?_⟩
  · exact (entryClass_cases s e.subject).elim (h0 e he) (h2 e he)
  · exact (cls_cases r.owner).elim (h1 r hr) (h3 r hr)

/-- Settles O33: the choice by what the classes before it left, then the two conditions of service. -/
theorem arbiterTakesTheFirstOfTheHighestClass : Obligations.ArbiterTakesTheFirstOfTheHighestClass := by
  refine ⟨fun s u => ⟨arbiterChoice_busy, fun e h => ?_, fun r h => ?_, arbiterChoice_none⟩, canCommit_iff, canRead_iff⟩
  · obtain ⟨hfirst, hclass⟩ := arbiterChoice_commit h
    obtain ⟨-, hcan, a, b, hqueue, hbefore⟩ := commitOf_eq_some hfirst
    refine ⟨by simp [hqueue], hcan, ⟨a, b, hqueue, hbefore⟩, fun f hf hlt => ?_, fun r hr hlt => ?_⟩
    · obtain h0 | ⟨h2, hnone, -⟩ := hclass
      · omega
      · exact commitOf_eq_none.mp hnone f hf (by have := entryClass_cases s f.subject; omega)
    · obtain h0 | ⟨h2, -, hnone⟩ := hclass
      · omega
      · exact readOfClass_eq_none.mp hnone r hr (by have := cls_cases r.owner; omega)
  · obtain ⟨hfirst, hcommits, hclass⟩ := arbiterChoice_read h
    obtain ⟨-, hcan, a, b, hreads, hbefore⟩ := readOfClass_eq_some hfirst
    refine ⟨by simp [hreads], hcan, ⟨a, b, hreads, hbefore⟩, fun q hq hlt => ?_, fun f hf hlt => ?_⟩
    · obtain h1 | ⟨h3, hnone, -⟩ := hclass
      · have := cls_cases q.owner
        omega
      · exact readOfClass_eq_none.mp hnone q hq (by have := cls_cases q.owner; omega)
    · obtain h0 | h2 := entryClass_cases s f.subject
      · exact commitOf_eq_none.mp hcommits f hf h0
      · obtain h1 | ⟨-, -, hnone⟩ := hclass
        · omega
        · exact commitOf_eq_none.mp hnone f hf h2

/-! ### What a grant sends -/

/-- Sending an operation to a unit whose record has just been changed is one change of it (R72). -/
theorem sendOperation_modifyUnit (u : Nat) (w : Work) (f : UnitRec → UnitRec) (s : State) :
    sendOperation u w (modifyUnit u f s) = { s with
      units := s.units.modify u fun x => { f x with op := some ⟨s.opCount, w, s.timeBase, s.commitLimit⟩ }
      opCount := s.opCount + 1 } := by
  simp only [sendOperation, modifyUnit, List.modify_modify_eq]
  rfl

theorem beginAttempt_eq (u : Nat) (e : Entry) (s : State) :
    beginAttempt u e s = { setEntryContent e.subject .committing s with
      queue := s.queue.map fun x => if x.subject = e.subject then { x with
        inFlight := some (u, s.timeBase), attempts := x.attempts + 1
        tried := if u ∈ x.tried then x.tried else x.tried ++ [u] } else x
      units := s.units.modify u fun x =>
        { x with free := x.free - e.extents, op := some ⟨s.opCount, .write e.subject, s.timeBase, s.commitLimit⟩ }
      opCount := s.opCount + 1
      chainOut := s.chainOut ++ [.writeVerify u s.opCount e.extents e.content.length e.check e.content] } := by
  simp only [beginAttempt, sendOperation_modifyUnit]
  cases e.subject <;> rfl

theorem sendRead_eq (u : Nat) (r : Read) (k : Nat) (s : State) :
    sendRead u r k s = { s with
      units := s.units.modify u fun x => { x with op := some ⟨s.opCount, .read r k true, s.timeBase, s.commitLimit⟩ }
      opCount := s.opCount + 1
      chainOut := s.chainOut ++ [.read u s.opCount r.start r.extents r.size] } := rfl

/-- A ticket whose read is sent is READING; another owner has no record to mark (R103). -/
theorem markReading_eq (o : Owner) (s : State) :
    markReading o s = { s with
      tickets := s.tickets.map fun t => if .ticket t.number = o then { t with state := .reading } else t } := by
  cases o <;> simp [markReading, modifyTicket]

/-- Settles O34: a grant sends the arbiter's work when it is of the grant's kind. -/
theorem grantsSendTheWork : Obligations.GrantsSendTheWork := by
  intro u s _
  have hcommit : exec (.commitGrant u) s = execCommitGrant u s := rfl
  have hread : exec (.readGrant u) s = execReadGrant u s := rfl
  rw [hcommit, hread]
  unfold execCommitGrant execReadGrant
  refine ⟨fun e h => ?_, fun h => ?_, fun r h => ?_, fun h => ?_⟩
  · rw [h]
    exact congrArg Host.Outcome.next (beginAttempt_eq u e s)
  · split
    · next e he => exact absurd he (h e)
    · rfl
  · rw [h]
    exact congrArg Host.Outcome.next ((markReading_eq ..).trans (by rw [sendRead_eq]))
  · split
    · next r hr => exact absurd hr (h r)
    · rfl

end Sys2Proof.Machine.GrantLaws
end


section
/-! The settings of the units: UNIT-STATE, HOLD-CLASS, RELEASE-CLASS and SET-COMMIT-LIMIT (R70, R79, R87). -/

namespace Sys2Proof.Machine.UnitSettingLaws
open Sys2Proof Sys2Proof.Machine Sys2Proof.Machine.WriteFailLaws

/-- HOLD-CLASS and RELEASE-CLASS: a class other than 2 and 3 is refused, else the hold is set or cleared and the held
classes are reported (R79). -/
theorem changeHold_ends (tag c : Nat) (on : Bool) (s : State) :
    (Host.Outcome.next (answer tag (taken s) (changeHold on c (taken s))) : Answered) =
      if c = 2 then endsDone tag [Wire.u8 ((if on then 4 else 0) + if s.held3 then 8 else 0)] { taken s with held2 := on }
      else if c = 3 then
        endsDone tag [Wire.u8 ((if s.held2 then 4 else 0) + if on then 8 else 0)] { taken s with held3 := on }
      else endsRefused tag .outOfRange s := by
  by_cases h2 : c = 2
  · subst h2
    cases on <;> cases h : s.held3 <;> simp [changeHold, setHold, heldClasses, memberBits, h]
  · by_cases h3 : c = 3
    · subst h3
      cases on <;> cases h : s.held2 <;> simp [changeHold, setHold, heldClasses, memberBits, h]
    · simp [changeHold, h2, h3]

/-- Settles O39: each request's checks in their order, then the one record it changes. -/
theorem unitSettings : Obligations.UnitSettings := by
  refine ⟨fun tag r s hacts => ends_request hacts ?_, fun tag c s => ⟨fun hacts => ends_request hacts ?_,
    fun hacts => ends_request hacts ?_⟩, fun tag n s hacts => ends_request hacts ?_⟩
  · refine ends_ensure (by simp) fun _ => ?_
    cases hstate : settableState r.state with
    | none => rfl
    | some st =>
      refine ends_ensure (by simp [unitAt]) fun _ => ?_
      have hchange := modify_unit_congr (s := s) (u := r.position)
        (f := fun x => { x with
          state := st, failures := if (unitAt s r.position).state = .faulted then 0 else x.failures })
        (g := fun x => { x with state := st, failures := if x.state = .faulted then 0 else x.failures }) rfl
      exact congrArg (fun l => endsDone tag [Wire.u8 (unitAt s r.position).state.code, .u8 st.code]
        { taken s with units := l }) hchange
  · refine (changeHold_ends tag c true s).trans ?_
    cases s.held2 <;> cases s.held3 <;> rfl
  · refine (changeHold_ends tag c false s).trans ?_
    cases s.held2 <;> cases s.held3 <;> rfl
  · by_cases hn : n = 2 ∨ n = 4 ∨ n = 8 ∨ n = 16
    · rw [if_pos hn]
      simp [setCommitLimit, hn]
    · rw [if_neg hn]
      simp [setCommitLimit, hn]

end Sys2Proof.Machine.UnitSettingLaws
end


section
/-! POWER, BROWNOUT and LINE: what they discard, what they keep, and what they cut (R69, R199, R208, R211, R214 to R218). -/

namespace Sys2Proof.Machine.ResetLaws
open Sys2Proof Sys2Proof.Machine

/-! ### A recovery pass cut (R218) -/

/-- The writes not made are some of the pass's, in its order. -/
theorem unwritten_sublist (s : State) : (unwritten s).Sublist s.passWrites := by
  have h := (List.filter_sublist (p := fun x : PassWrite × Nat => !Config.writtenBeforeCut s.freeCount x.2)
    (l := s.passWrites.zipIdx)).map Prod.fst
  rwa [List.zipIdx_map_fst] at h

/-- The records after a cut are those of the writes not made undone. -/
theorem cutPass_records (s : State) :
    ∃ l : List PassWrite, l.Sublist s.passWrites
      ∧ (cutPass s).editions = (l.foldl (fun y w => undoWrite w y) s).editions
      ∧ (cutPass s).photos = (l.foldl (fun y w => undoWrite w y) s).photos := by
  unfold cutPass
  split
  · exact ⟨[], List.nil_sublist _, rfl, rfl⟩
  · exact ⟨unwritten s, unwritten_sublist s, rfl, rfl⟩

/-! ### A delivery cut (R199) -/

theorem cutFrames_idle {s : State} (h : s.outbound = .idle) : cutFrames s = [] := by
  simp only [cutFrames, h]

/-- Of a delivery's frames the first ones are out, and never all of them. -/
theorem cutFrames_sending {s : State} {d : Delivery} {frames : List OutFrame} (h : s.outbound = .sending d frames)
    (hne : frames ≠ []) : ∃ k < frames.length, cutFrames s = frames.take k := by
  simp only [cutFrames, h]
  exact ⟨_, Nat.mod_lt _ (List.length_pos_of_ne_nil hne), rfl⟩

/-- The frames that got out before the cut; a pass cut with the delivery has used its free value first. -/
theorem hardReset_linkOut (cause : ResetCause) (s : State) :
    (hardReset cause s).linkOut = s.linkOut ++ cutFrames (cutPass s) := by
  simp [hardReset, discardVolatile]

/-! ### The three resets -/

/-- A part held in reset: the reset taken with its cause, the supply state and what holds it as given. -/
abbrev heldReset (cause : ResetCause) (supply : Supply) (supplyHeld lineHeld : Bool) (s : State) : State :=
  { hardReset cause s with supply := supply, supplyHeld := supplyHeld, lineHeld := lineHeld }

theorem powerReset_eq (s : State) : exec .powerReset s = .next (heldReset .power .normal true s.lineHeld s) := by
  have h : (hardReset .power s).lineHeld = s.lineHeld := by simp [hardReset, discardVolatile]
  rw [← h]
  rfl

theorem brownoutReset_eq (s : State) : exec .brownoutReset s = .next (heldReset .brownout .normal true s.lineHeld s) := by
  have h : (hardReset .brownout s).lineHeld = s.lineHeld := by simp [hardReset, discardVolatile]
  rw [← h]
  rfl

theorem lineAssert_free {s : State} (h : s.lineHeld = false) :
    exec .lineAssert s = .next (heldReset .line s.supply s.supplyHeld true s) := by
  have hkept : (hardReset .line s).supply = s.supply ∧ (hardReset .line s).supplyHeld = s.supplyHeld := by
    simp [hardReset, discardVolatile]
  change execLineAssert s = _
  rw [← hkept.1, ← hkept.2]
  simp [execLineAssert, h]

theorem lineAssert_held {s : State} (h : s.lineHeld = true) : exec .lineAssert s = .next s := by
  change execLineAssert s = _
  simp [execLineAssert, h]

/-- What a hard reset keeps: the store but for the reserved sums and the close timers, the slabs' bytes, the time base. -/
theorem hardReset_keeps (cause : ResetCause) (s : State) :
    (hardReset cause s).staging = s.staging ∧ (hardReset cause s).timeBase = s.timeBase
      ∧ (hardReset cause s).accounts = s.accounts.map (fun a => { a with reserved := 0 })
      ∧ (hardReset cause s).passWrites = [] ∧ (hardReset cause s).profiles = s.profiles
      ∧ (hardReset cause s).tariff = s.tariff ∧ (hardReset cause s).holders = s.holders
      ∧ (hardReset cause s).revenue = s.revenue ∧ (hardReset cause s).commitLimit = s.commitLimit
      ∧ (hardReset cause s).filter = s.filter := by
  simp [hardReset, discardVolatile]

/-- Settles O58: the three resets are one, held by the supply or by the line; what is volatile is as after POWER, the rest
is kept, and a delivery and a recovery pass are cut. -/
theorem hardResetsDiscardVolatileWork : Obligations.HardResetsDiscardVolatileWork := by
  intro s
  refine ⟨heldReset .power .normal true s.lineHeld s, heldReset .brownout .normal true s.lineHeld s,
    heldReset .line s.supply s.supplyHeld true s, powerReset_eq s, brownoutReset_eq s,
    fun h => ⟨lineAssert_free h, rfl, rfl, rfl⟩, lineAssert_held, ⟨rfl, rfl⟩, ⟨rfl, rfl⟩, rfl, rfl, rfl, rfl, rfl,
    fun x hx => ?_⟩
  obtain ⟨cause, supply, a, b, rfl⟩ : ∃ cause supply a b, x = heldReset cause supply a b s := by
    obtain rfl | rfl | rfl := hx <;> exact ⟨_, _, _, _, rfl⟩
  obtain ⟨hstaging, htime, haccounts, hpass, hprofiles, htariff, hholders, hrevenue, hlimit, hfilter⟩ :=
    hardReset_keeps cause s
  have hout : (cutPass s).outbound = s.outbound := by simp
  refine ⟨rfl, rfl, rfl, rfl, rfl, rfl, rfl, rfl, rfl, rfl, rfl, rfl, rfl, rfl, rfl, rfl, rfl, rfl, rfl, hstaging, rfl,
    htime, rfl, rfl, rfl, rfl, rfl, rfl, rfl, rfl, fun hidle => ?_, fun d frames hsending hne => ?_, rfl, haccounts, hpass,
    fun hnone => ?_, ?_, hprofiles, htariff, hholders, hrevenue, hlimit, hfilter⟩
  · exact (hardReset_linkOut cause s).trans (by rw [cutFrames_idle (hout.trans hidle), List.append_nil])
  · obtain ⟨k, hk, hframes⟩ := cutFrames_sending (hout.trans hsending) hne
    exact ⟨k, hk, (hardReset_linkOut cause s).trans (by rw [hframes])⟩
  · simp [hardReset, discardVolatile, cutPass_none hnone]
  · obtain ⟨l, hl, heditions, hphotos⟩ := cutPass_records s
    exact ⟨l, hl, congrArg (List.map Edition.stopTimer) heditions, hphotos⟩

end Sys2Proof.Machine.ResetLaws
end


section
/-! A unit's answer to a read: its bytes land, its try is sent again, or the read fails (R72, R73, R75, R88 to R92,
R104, R120, R157, R158). -/

namespace Sys2Proof.Machine.ReadLaws
open Sys2Proof Sys2Proof.Machine Sys2Proof.Machine.CascadeLaws Sys2Proof.Machine.GrantLaws Sys2Proof.Machine.RecordLaws
  Sys2Proof.Machine.RightsLaws Sys2Proof.Machine.WriteFailLaws

/-! ### Which read an answer answers (R72; log 30) -/

theorem outstanding_of_op {s : State} {u op : Nat} {w : Work} {n : Tick} {limit : Nat}
    (h : (unitAt s u).op = some ⟨op, w, n, limit⟩) : outstanding s u op = some w := by
  simp [outstanding, h]

theorem readAnswer_owned {s : State} {u op : Nat} {r : Read} {k : Nat} {n : Tick} {limit : Nat}
    (h : (unitAt s u).op = some ⟨op, .read r k true, n, limit⟩) (a : Option (List Byte)) :
    exec (.readAnswer ⟨u, op⟩ a) s = .next (readAnswered u r k a s) := by
  change execReadAnswer ⟨u, op⟩ a s = _
  simp only [execReadAnswer, outstanding_of_op h]

/-- A read without an owner only ends; an OK clears its unit's failures (R91). -/
theorem readAnswer_orphan {s : State} {u op : Nat} {r : Read} {k : Nat} {n : Tick} {limit : Nat}
    (h : (unitAt s u).op = some ⟨op, .read r k false, n, limit⟩) (a : Option (List Byte)) :
    exec (.readAnswer ⟨u, op⟩ a) s = .next { s with units := s.units.modify u fun x =>
      { x with op := none, failures := if a.isSome then 0 else x.failures } } := by
  change execReadAnswer ⟨u, op⟩ a s = _
  simp only [execReadAnswer, outstanding_of_op h]
  cases a with
  | none => rfl
  | some b =>
    simp only [orphanEnded, Option.isSome_some, if_true, clearFailures, endOperation, modifyUnit, List.modify_modify_eq]
    rfl

/-- With no read out under the number the answer is discarded (R72, R73). -/
theorem readAnswer_discarded {s : State} {u op : Nat}
    (h : ∀ r k o n limit, (unitAt s u).op ≠ some ⟨op, .read r k o, n, limit⟩) (a : Option (List Byte)) :
    exec (.readAnswer ⟨u, op⟩ a) s = .next s := by
  have hread : ∀ r k o, outstanding s u op ≠ some (.read r k o) := by
    intro r k o hout
    obtain ⟨x, hx, hwork⟩ := Option.map_eq_some_iff.mp hout
    obtain ⟨hop, hnumber⟩ := Option.filter_eq_some_iff.mp hx
    obtain ⟨number, work, sentAt, limit⟩ := x
    subst hwork
    cases of_decide_eq_true hnumber
    exact h r k o sentAt limit hop
  change execReadAnswer ⟨u, op⟩ a s = _
  unfold execReadAnswer
  split
  · next hout => exact absurd hout (hread _ _ _)
  · next hout => exact absurd hout (hread _ _ _)
  · rfl

/-! ### A try that succeeds (R88, R92) -/

/-- The read's bytes in its owner's slabs, its unit IDLE with no failures. -/
abbrev answeredOk (u : Nat) (r : Read) (b : List Byte) (s : State) : State := { s with
  staging := writeHolder (ownerSlabs s r.owner) 0 (b.take r.size) s.staging
  units := s.units.modify u fun x => { x with op := none, failures := 0 } }

theorem readAnswered_agrees {r : Read} {b : List Byte} (h : crc32 (b.take r.size) = r.check) (u k : Nat) (s : State) :
    readAnswered u r k (some b) s = landed r (b.take r.size) (answeredOk u r b s) := by
  simp only [readAnswered, if_pos h, clearFailures, endOperation, modifyUnit, stage, List.modify_modify_eq]
  rfl

/-- What has landed, by its owner (R103, R120, R157). -/
theorem landed_ticket {r : Read} {y : Nat} (h : r.owner = .ticket y) (b : List Byte) (s : State) :
    landed r b s = drain [] (raise .ticketReady (.ticket y) (r.subject.wire ++ [.u8 r.copy.code, .u32 r.size])
      (modifyTicket y (fun t => { t with state := .ready (some s.timeBase), content := b }) s)) := by
  simp only [landed, h]

theorem landed_job {r : Read} {y : Nat} (h : r.owner = .job y) (b : List Byte) (s : State) :
    landed r b s = drain [] (modifyJob y (fun j => { j with landed := true, input := b }) s) := by
  simp only [landed, h]

theorem landed_item {r : Read} {o i : Nat} (h : r.owner = .item o i) (b : List Byte) {s : State} {it : ItemRec}
    (hi : findItem s o i = some it) :
    landed r b s = drain [.activate o] (raise .itemReady (.item o i)
      ([.u8 it.product.code] ++ it.subject.wire ++ it.bound.wire ++ [.u32 r.size])
      (leaveTurn o i (modifyItem o i (fun x => { x with state := .ready (some s.timeBase), content := b }) s))) := by
  simp only [landed, h, hi]

/-! ### A try that fails (R88, R90) -/

/-- What an answer that did not succeed has left in the owner's slabs: the bytes of a mismatch, none of an ERROR (R88). -/
abbrev answeredBytes (r : Read) (a : Option (List Byte)) (s : State) : State := { s with
  staging := match a with
    | some b => writeHolder (ownerSlabs s r.owner) 0 (b.take r.size) s.staging
    | none => s.staging }

theorem readAnswered_fails {r : Read} {a : Option (List Byte)} (h : ∀ b, a = some b → crc32 (b.take r.size) ≠ r.check)
    (u k : Nat) (s : State) :
    readAnswered u r k a s
      = tryFailed u r k (if a.isSome then causeMismatch else causeError) (answeredBytes r a s) := by
  cases a with
  | none => rfl
  | some b => exact if_neg (h b rfl)

theorem tryFailed_first (u : Nat) (r : Read) (cause : Nat) (s : State) : tryFailed u r 1 cause s = sendRead u r 2 s := rfl

/-! ### The failure counted (R75) -/

/-- The read's operation ended and its failure counted; a read takes no extents. -/
def readCounted (u cause : Nat) (s : State) : State :=
  if (unitAt s u).failures < 7 then { s with units := s.units.modify u (failedOnce 0) }
  else raise .unitFaulted (.unit u) [Wire.u8 2, .u8 (faultCause s cause)] { s with
    units := s.units.modify u (failedEighth 0), freeCount := s.freeCount + if cause = 1 then 1 else 0 }

theorem countFree_eq_add (cause : Nat) (s : State) :
    countFree cause s = { s with freeCount := s.freeCount + if cause = 1 then 1 else 0 } := by
  unfold countFree causeMismatch
  by_cases h : cause = 1
  · rw [if_pos h, if_pos h]
  · rw [if_neg h, if_neg h]
    rfl

theorem countFailure_read (u cause : Nat) (s : State) :
    countFailure u kindRead cause (endOperation u s) = readCounted u cause s := by
  have hcapped : modifyUnit u (fun x => { x with failures := min 8 (x.failures + 1) }) (endOperation u s)
      = { s with units := s.units.modify u (failedCapped 0) } := by
    simp only [endOperation, modifyUnit, List.modify_modify_eq]
    rfl
  have hcause : faultCause (endOperation u s) cause = faultCause s cause := rfl
  unfold countFailure readCounted
  simp only [hcapped, hcause, failedCapped_eighth, ite_not, countFree_eq_add]
  split
  · next hf =>
    rw [modify_unit_congr (f := failedCapped 0) (g := failedOnce 0)
      (by simp only [failedCapped, failedOnce, Nat.min_eq_right (Nat.succ_le_succ (Nat.le_of_lt hf))])]
  · next hf =>
    simp only [modifyUnit, List.modify_modify_eq]
    rw [modify_unit_congr (g := failedEighth 0)
      (by simp only [Function.comp, failedEighth, Nat.min_eq_left (Nat.succ_le_succ (Nat.not_lt.mp hf))])]
    rfl

/-- The faults raised change no unit and use no free value. -/
theorem readCounted_raiseFaults (u cause : Nat) (x : Subject) (s : State) :
    readCounted u cause (raiseFaults x s) =
      if (unitAt s u).failures < 7 then { raiseFaults x s with
        units := s.units.modify u fun x => { x with failures := x.failures + 1, op := none } }
      else raise .unitFaulted (.unit u) [Wire.u8 2, .u8 (if cause = 2 then 1 else if cause = 3 then 2
          else if Config.mismatchCauseIsError s.freeCount then 1 else 2)] { raiseFaults x s with
        units := s.units.modify u fun x => { x with state := .faulted, failures := 8, op := none }
        freeCount := s.freeCount + if cause = 1 then 1 else 0 } := by
  cases x <;> rfl

theorem readCounted_keeps (u cause : Nat) (s : State) :
    (readCounted u cause s).editions = s.editions ∧ (readCounted u cause s).photos = s.photos
      ∧ (readCounted u cause s).reads = s.reads ∧ (readCounted u cause s).tickets = s.tickets
      ∧ (readCounted u cause s).units.length = s.units.length := by
  unfold readCounted
  split <;> simp

theorem unitAt_readCounted {s : State} {u : Nat} (hu : u < s.units.length) (cause : Nat) :
    unitAt (readCounted u cause s) u
      = if (unitAt s u).failures < 7 then failedOnce 0 (unitAt s u) else failedEighth 0 (unitAt s u) := by
  unfold readCounted
  split
  · exact unitAt_modify hu rfl
  · exact unitAt_modify hu (by simp)

theorem op_readCounted (u cause : Nat) (s : State) : (unitAt (readCounted u cause s) u).op = none := by
  by_cases hu : u < s.units.length
  · rw [unitAt_readCounted hu]
    split <;> rfl
  · obtain ⟨-, -, -, -, hlength⟩ := readCounted_keeps u cause s
    rw [unitAt_of_le (hlength ▸ Nat.not_lt.mp hu)]
    rfl

theorem faultTasks_readCounted (u cause : Nat) (s : State) :
    faultTasks (readCounted u cause s) u = failingReads s u := by
  obtain ⟨-, -, hreads, -, hlength⟩ := readCounted_keeps u cause s
  have howners : waitingOwners (readCounted u cause s) u = waitingOwners s u := by
    simp only [waitingOwners, hreads]
  have hstate : (unitAt (readCounted u cause s) u).state = .faulted
      ↔ 7 ≤ (unitAt s u).failures ∨ (unitAt s u).state = .faulted := by
    by_cases hu : u < s.units.length
    · rw [unitAt_readCounted hu]
      split <;> simp <;> omega
    · have hle := Nat.not_lt.mp hu
      rw [unitAt_of_le hle, unitAt_of_le (hlength ▸ hle)]
      decide
  simp only [faultTasks, failingReads, howners, hstate]

/-! ### A read that has failed (R90) -/

/-- The state in which a failed read's owner acts: the subject's faults raised, the failure counted, FETCH-FAILED raised. -/
def readFailing (u : Nat) (r : Read) (cause : Nat) (s : State) : State :=
  raiseFetchFailed r cause (readCounted u cause (raiseFaults r.subject s))

theorem readFailed_eq (u : Nat) (r : Read) (cause : Nat) (s : State) :
    readFailed u r cause s = drain ((ownerFailed r.owner (readFailing u r cause s)).2 ++ failingReads s u)
      (ownerFailed r.owner (readFailing u r cause s)).1 := by
  have hend : raiseFaults r.subject (endOperation u s) = endOperation u (raiseFaults r.subject s) := by
    cases r.subject <;> rfl
  have hreads : failingReads (raiseFaults r.subject s) u = failingReads s u := by
    cases r.subject <;> rfl
  unfold readFailed readFailing
  simp only [hend, countFailure_read, faultTasks_readCounted, hreads]

theorem readFailing_keeps (u : Nat) (r : Read) (cause : Nat) (s : State) :
    (readFailing u r cause s).editions = (raiseFaults r.subject s).editions
      ∧ (readFailing u r cause s).photos = (raiseFaults r.subject s).photos
      ∧ (readFailing u r cause s).tickets = s.tickets := by
  obtain ⟨heditions, hphotos, -, htickets, -⟩ := readCounted_keeps u cause (raiseFaults r.subject s)
  simp only [readFailing, raiseFetchFailed_keeps, heditions, hphotos, htickets, raiseFaults_keeps, and_self]

/-! ### How the owner acts (R104, R120, R158) -/

theorem ownerFailed_ticket {s : State} {n : Nat} {x : Ticket} (h : findTicket s n = some x) :
    ownerFailed (.ticket n) s = (freeTicket x s, []) := by
  simp only [ownerFailed, h]

theorem findTicket_congr {s t : State} (h : t.tickets = s.tickets) (n : Nat) : findTicket t n = findTicket s n := by
  unfold findTicket
  rw [h]

/-- A ticket that has been freed does not come back in the work that follows (R104). -/
theorem findTicket_freed {s : State} {n : Nat} {x : Ticket} (h : findTicket s n = some x) (l : List Task) :
    findTicket (drain l (freeTicket x s)) n = none := by
  have hnumber : x.number = n := by simpa using List.find?_some h
  refine List.find?_eq_none.mpr fun y hy => ?_
  have hleft : y ∈ (freeTicket x s).tickets := tickets_drainTally l _ hy
  simp only [freeTicket, returnSlabs_keeps, endReads_keeps, List.mem_filter, decide_eq_true_eq] at hleft
  simpa [← hnumber] using hleft.2

theorem kept_ownerFailed (o : Owner) (s : State) : Kept s (ownerFailed o s).1 := by
  refine kept_of_same ?_ (by simp) (by simp)
  unfold ownerFailed
  split
  · split
    · rfl
    · next x _ => exact endReads_standing (.ticket x.number) _
  · rfl
  · rfl

/-! ### Read faults (R17, R29) -/

/-- What all of a step's work leaves of the read faults of plates: only an installation touches the editions, and it
replaces a restored copy alone. -/
theorem readFaults_perform (t : Task) (s : State) (p : PlateRef) :
    (findPlate (perform t s).1 p).map (·.readFaults) = (findPlate s p).map (·.readFaults) := by
  unfold perform
  split
  · cases t with
    | install n =>
      obtain ⟨he | ⟨r, c, he⟩, -⟩ := installCopy_records n s
      · exact congrArg _ (congrFun (findPlate_congr he) p)
      · exact (congrArg _ (congrFun (findPlate_congr he) p)).trans
          (findPlate_modifyPlate_view (f := withCopy c) (·.readFaults) (fun _ => rfl) r s p)
    | _ => exact congrArg _ (congrFun (findPlate_congr (by simp [carryOut])) p)
  · rfl

theorem readFaults_drain (l : List Task) (s : State) (p : PlateRef) :
    (findPlate (drain l s) p).map (·.readFaults) = (findPlate s p).map (·.readFaults) :=
  drain_induction (P := fun t => (findPlate t p).map (·.readFaults) = (findPlate s p).map (·.readFaults))
    (fun t u h => (readFaults_perform t u p).trans h) l s rfl

/-- What a failed read leaves: its unit IDLE, its subject's faults raised, whatever work follows. -/
theorem readFailed_leaves (u : Nat) (r : Read) (cause : Nat) (s : State) :
    (unitAt (readFailed u r cause s) u).op = none
    ∧ (∀ p, (findPlate (readFailed u r cause s) p).map (·.readFaults)
        = (findPlate (raiseFaults r.subject s) p).map (·.readFaults))
    ∧ (readFailed u r cause s).photos = (raiseFaults r.subject s).photos := by
  obtain ⟨heditions, hphotos, -⟩ := readFailing_keeps u r cause s
  rw [readFailed_eq]
  have hkept := (kept_ownerFailed r.owner (readFailing u r cause s)).trans
    (kept_drain ((ownerFailed r.owner (readFailing u r cause s)).2 ++ failingReads s u) _)
  refine ⟨?_, fun p => ?_, ?_⟩
  · have hunit := hkept.unit u
    have hop : (unitAt (readFailing u r cause s) u).op = none := by
      rw [unitAt_congr (t := readFailing u r cause s) (s := readCounted u cause (raiseFaults r.subject s))
        (by simp [readFailing])]
      exact op_readCounted ..
    simpa [standing, hop] using congrArg (·.2.2.2) hunit
  · rw [readFaults_drain, findPlate_congr ((ownerFailed_keeps _ _).1.trans heditions)]
  · simp [hphotos]

/-! ### A read its unit cannot serve (R89) -/

theorem perform_failAtOnce (o : Owner) (s : State) : perform (.failAtOnce o) s = failRead o s :=
  perform_wanted (t := .failAtOnce o) rfl

theorem failRead_none {o : Owner} {s : State} (h : ∀ r ∈ s.reads, r.owner ≠ o) : failRead o s = (s, []) := by
  have hnone : s.reads.find? (fun r => decide (r.owner = o)) = none :=
    List.find?_eq_none.mpr fun r hr => by simpa using h r hr
  simp only [failRead, hnone]

theorem failRead_found {o : Owner} {s : State} {r : Read} (h : s.reads.find? (fun r => decide (r.owner = o)) = some r) :
    failRead o s = ownerFailed o
      (raiseFetchFailed r 4 { s with reads := s.reads.filter fun r => decide (r.owner ≠ o) }) := by
  simp only [failRead, h, causeUnavailable]

/-- Settles O37: the answer by the try outstanding, what lands by its owner, a failed read by its owner, and the read that
fails at once. -/
theorem readAnswersLandOrRetry : Obligations.ReadAnswersLandOrRetry := by
  refine ⟨fun u op s => ⟨fun r k n lim b hop hcrc => ?_, fun r n lim a hop hfails => ?_, fun r n lim b hop => ?_,
    fun r k n lim a hop => readAnswer_orphan hop a, fun a h => readAnswer_discarded h a⟩, fun u r cause s _ => ?_,
    fun o s => ⟨fun h => ?_, fun r h => ?_⟩⟩
  · rw [readAnswer_owned hop, readAnswered_agrees hcrc]
    refine ⟨fun y hy => ?_, fun y hy => ?_, fun o i it ho hi => ?_⟩
    · rw [landed_ticket hy]
      rfl
    · rw [landed_job hy]
      rfl
    · rw [landed_item ho _ (s := answeredOk u r b s) hi]
  · rw [readAnswer_owned hop, readAnswered_fails hfails, tryFailed_first]
    cases a <;> rfl
  · rw [readAnswer_owned hop, readAnswer_owned hop, readAnswered_fails (a := none) nofun]
    refine ⟨rfl, fun hcrc => ?_⟩
    rw [readAnswered_fails fun c hc => Option.some.inj hc ▸ hcrc]
    rfl
  · intro f c h v reads w
    have hw : readFailing u r cause s = w := by
      unfold readFailing raiseFetchFailed
      rw [readCounted_raiseFaults]
    obtain ⟨hop, hplates, hphotos⟩ := readFailed_leaves u r cause s
    obtain ⟨-, -, htickets⟩ := readFailing_keeps u r cause s
    rw [hw] at htickets
    have heq := readFailed_eq u r cause s
    rw [hw] at heq
    refine ⟨fun n x ho hx => ?_, fun n ho => ?_, fun o i ho => ?_, hop, fun p q hp hq => ?_, fun p q hp hq => ?_⟩
    · have hx' : findTicket w n = some x := (findTicket_congr htickets n).trans hx
      rw [ho, ownerFailed_ticket hx'] at heq
      rw [heq]
      exact ⟨rfl, findTicket_freed hx' _⟩
    · rw [heq, ho]
      rfl
    · rw [heq, ho]
      rfl
    · have hraised := hplates p
      rw [hp] at hraised
      change _ = (findPlate (modifyPlate p _ s) p).map (·.readFaults) at hraised
      rw [findPlate_modifyPlate_self, hq] at hraised
      exact Option.map_eq_some_iff.mp hraised
    · rw [findPhoto_congr hphotos, hp]
      exact ⟨_, findPhoto_modifyPhoto (f := fun p => { p with readFaults := min 255 (p.readFaults + 1) }) (fun _ => rfl) hq,
        rfl⟩
  · rw [perform_failAtOnce, failRead_none h]
  · intro v
    rw [perform_failAtOnce, failRead_found h]
    refine ⟨fun n x ho hx => ?_, fun n ho => ?_, fun n i ho => ?_⟩
    · have hx' : findTicket v n = some x := (findTicket_congr (by simp [v]) n).trans hx
      subst ho
      exact ownerFailed_ticket hx'
    · subst ho
      rfl
    · subst ho
      rfl

end Sys2Proof.Machine.ReadLaws
end


section
/-! The operation limit: the abort, and the try, the attempt or the end that follows it (R73, R84, R88, R90, R91). -/

namespace Sys2Proof.Machine.LimitLaws
open Sys2Proof Sys2Proof.Machine Sys2Proof.Machine.GrantLaws Sys2Proof.Machine.ReadLaws Sys2Proof.Machine.WriteLaws
  Sys2Proof.Machine.WriteFailLaws

theorem operationLimitExpiry_idle {s : State} {u : Nat} (h : (unitAt s u).op = none) :
    exec (.operationLimitExpiry u) s = .next s := by
  change execOperationLimitExpiry u s = _
  simp only [execOperationLimitExpiry, h]

theorem operationLimitExpiry_early {s : State} {u m limit : Nat} {w : Work} {start : Tick}
    (h : (unitAt s u).op = some ⟨m, w, start, limit⟩) (hearly : (s.timeBase - start).toNat < 100 * limit) :
    exec (.operationLimitExpiry u) s = .next s := by
  change execOperationLimitExpiry u s = _
  simp [execOperationLimitExpiry, h, (due_false_iff s limit start).mpr hearly]

theorem operationLimitExpiry_due {s : State} {u m limit : Nat} {w : Work} {start : Tick}
    (h : (unitAt s u).op = some ⟨m, w, start, limit⟩) (hdue : 100 * limit ≤ (s.timeBase - start).toNat) :
    exec (.operationLimitExpiry u) s = .next (operationExpired u w s) := by
  change execOperationLimitExpiry u s = _
  simp [execOperationLimitExpiry, h, (due_iff s limit start).mpr hdue]

/-! ### What follows the abort, by the work (R73) -/

/-- The unit sent the abort. -/
abbrev aborted (u : Nat) (s : State) : State := { s with chainOut := s.chainOut ++ [.abort u] }

theorem operationExpired_first (u : Nat) (r : Read) (s : State) :
    operationExpired u (.read r 1 true) s = { s with
      units := s.units.modify u fun x => { x with op := some ⟨s.opCount, .read r 2 true, s.timeBase, s.commitLimit⟩ }
      opCount := s.opCount + 1
      chainOut := s.chainOut ++ [.abort u, .read u s.opCount r.start r.extents r.size] } := by
  change sendRead u r 2 (aborted u s) = _
  rw [sendRead_eq, List.append_assoc]
  rfl

theorem operationExpired_second (u : Nat) (r : Read) (s : State) :
    operationExpired u (.read r 2 true) s = readFailed u r 3 (aborted u s) := rfl

theorem operationExpired_orphan (u : Nat) (r : Read) (k : Nat) (s : State) :
    operationExpired u (.read r k false) s = endOperation u (aborted u s) := rfl

theorem operationExpired_noEntry {s : State} {y : EntrySubject} (h : findEntry s y = none) (u : Nat) :
    operationExpired u (.write y) s = endOperation u (aborted u s) := by
  have h' : findEntry (aborted u s) y = none := h
  simp only [operationExpired, tell, h']

theorem operationExpired_write {s : State} {y : EntrySubject} {e : Entry} (h : findEntry s y = some e) (u : Nat) :
    operationExpired u (.write y) s = attemptFailed u e 3 (aborted u s) := by
  have h' : findEntry (aborted u s) y = some e := h
  simp only [operationExpired, tell, h', causeExpired]

/-- The entry of the write outstanding under a number is that of the operation's subject. -/
theorem work_of_writeAt {s : State} {u m limit : Nat} {w : Work} {start : Tick} {e : Entry}
    (h : (unitAt s u).op = some ⟨m, w, start, limit⟩) (he : writeAt s u m = some e) : w = .write e.subject := by
  unfold writeAt at he
  rw [outstanding_of_op h] at he
  cases w with
  | read => cases he
  | write y => rw [RecordLaws.subject_of_findEntry he]

/-- Settles O38: nothing before the limit; at it the abort, then what the outstanding work comes to. -/
theorem operationLimitsExpire : Obligations.OperationLimitsExpire := by
  refine ⟨fun u s => operationLimitExpiry_idle, fun u m s w start limit hop =>
    ⟨operationLimitExpiry_early hop, fun hdue => ?_⟩⟩
  rw [operationLimitExpiry_due hop hdue]
  refine ⟨fun r hw => ?_, fun r hw => ?_, fun r k hw => ?_, fun y hw hnone => ?_, fun e he => ?_⟩
  · rw [hw, operationExpired_first]
  · rw [hw, operationExpired_second]
  · rw [hw, operationExpired_orphan]
    rfl
  · rw [hw, operationExpired_noEntry hnone]
    rfl
  · obtain ⟨-, hentry⟩ := of_writeAt he
    rw [work_of_writeAt hop he, operationExpired_write hentry]
    refine ⟨rfl, fun hattempts hfailures hstate => ?_⟩
    have hquiet := attemptFailed_quiet (s := aborted u s) (u := u) hentry (cause := 3) (.inr rfl) hattempts hfailures hstate
    rw [hquiet]
    cases e.subject <;> rfl

end Sys2Proof.Machine.LimitLaws
end

section
/-! The Repair Engine's written tiles (R92, R122, R129, R140, R141). -/

namespace Sys2Proof.Machine.TileLaws
open Sys2Proof Sys2Proof.Machine

theorem tileWritten_free {s : State} (h : s.engine = none) : exec .tileWritten s = .next s := by
  change execTileWritten s = _
  simp only [execTileWritten, h]

theorem tileWritten_busy {s : State} {w : EngineWork} {j : Job} (hw : s.engine = some w) (hj : findJob s w.job = some j) :
    exec .tileWritten s = .next (
      if w.cursor + 1 < jobTiles s j then { writeTile j w.cursor s with engine := some ⟨w.job, w.cursor + 1⟩ }
      else endRepair j (writeTile j w.cursor s)) := by
  change execTileWritten s = _
  simp only [execTileWritten, hw, hj]

/-- A job found is found under its number. -/
theorem number_of_findJob {s : State} {n : Nat} {j : Job} (h : findJob s n = some j) : j.number = n := by
  simpa using List.find?_some h

/-- Two changes of the job with a number are one, when the first keeps its number. -/
theorem modifyJob_modifyJob (n : Nat) {f : Job → Job} (hf : ∀ y, (f y).number = y.number) (g : Job → Job) (s : State) :
    modifyJob n g (modifyJob n f s) = modifyJob n (fun y => g (f y)) s := by
  have hjobs : ∀ y : Job, (if (if y.number = n then f y else y).number = n then g (if y.number = n then f y else y)
      else if y.number = n then f y else y) = if y.number = n then g (f y) else y := fun y => by
    by_cases h : y.number = n <;> simp [h, hf]
  simp only [modifyJob, List.map_map, Function.comp_def, hjobs]

/-- A job whose REPAIRING has ended: its input slabs are given back (R122). -/
def repairEnded (y : Job) : Job := { y with state := .repaired, inputSlabs := [], input := [] }

/-- The end of REPAIRING after its last tile: both changes of the job's record in one. -/
theorem endRepair_writeTile (j : Job) (cursor : Nat) (s : State) :
    endRepair j (writeTile j cursor s) = drain [] {
      modifyJob j.number (fun y => repairEnded (y.addTile (tileResult j cursor))) s with
      staging := writeHolder j.outputSlabs (cursor * tileBytes) (tileResult j cursor).out s.staging
      engine := none
      free := s.free + j.inputSlabs.length } := by
  rw [← modifyJob_modifyJob j.number (f := fun y => y.addTile (tileResult j cursor)) (fun _ => rfl) repairEnded]
  rfl

/-- Settles O45: a FREE engine, then a tile below the last and the last. -/
theorem writtenTilesCount : Obligations.WrittenTilesCount := by
  refine fun s => ⟨tileWritten_free, fun w j hw hj => ⟨fun hbelow => ?_, fun hlast => ?_⟩⟩
  · rw [tileWritten_busy hw hj, if_pos hbelow, ← number_of_findJob hj]
    rfl
  · rw [tileWritten_busy hw hj, if_neg (Nat.not_lt.mpr hlast), endRepair_writeTile, ← number_of_findJob hj]
    rfl

end Sys2Proof.Machine.TileLaws
end

section
/-! The end of a ticket and the frames of a delivery (R105, R106, R160). -/

namespace Sys2Proof.Machine.TicketLaws
open Sys2Proof Sys2Proof.Machine

/-! ### The frames of a delivery -/

/-- Content cut into pieces of 4,096 bytes, the first argument being how many there are. -/
def pieces : Nat → List Byte → List (List Byte)
  | 0, _ => []
  | n + 1, b => b.take 4096 :: pieces n (b.drop 4096)

theorem dataFrames_pieces (n tag k : Nat) (b : List Byte) :
    dataFrames n tag (4096 * k) b = (pieces n b).mapIdx fun i x => .dataOut tag (4096 * (k + i)) x := by
  induction n generalizing k b with
  | zero => rfl
  | succ n ih =>
    simp only [dataFrames, pieces, List.mapIdx_cons, Nat.add_zero, List.cons.injEq, true_and]
    rw [← Nat.mul_succ, ih (k + 1)]
    simp only [Nat.add_assoc, Nat.add_comm 1]

theorem pieces_length (n : Nat) (b : List Byte) : (pieces n b).length = n := by
  induction n generalizing b with
  | zero => rfl
  | succ n ih => rw [pieces, List.length_cons, ih]

/-- The number of frames left once one of them has gone. -/
theorem count_after_piece {n : Nat} {b : List Byte} (h : n + 1 = (b.length + 4095) / 4096) :
    n = ((b.drop 4096).length + 4095) / 4096 := by
  rw [List.length_drop]
  omega

theorem pieces_flatten {n : Nat} {b : List Byte} (h : n = (b.length + 4095) / 4096) : (pieces n b).flatten = b := by
  induction n generalizing b with
  | zero => exact (List.eq_nil_of_length_eq_zero (by omega)).symm
  | succ n ih => rw [pieces, List.flatten_cons, ih (count_after_piece h), List.take_append_drop]

theorem pieces_bounds {n : Nat} {b : List Byte} (h : n = (b.length + 4095) / 4096) :
    ∀ x ∈ pieces n b, 1 ≤ x.length ∧ x.length ≤ 4096 := by
  induction n generalizing b with
  | zero => simp [pieces]
  | succ n ih =>
    refine List.forall_mem_cons.mpr ⟨?_, ih (count_after_piece h)⟩
    rw [List.length_take]
    omega

theorem pieces_full {n : Nat} {b : List Byte} (h : n = (b.length + 4095) / 4096) :
    ∀ x ∈ (pieces n b).dropLast, x.length = 4096 := by
  induction n generalizing b with
  | zero => simp [pieces]
  | succ n ih =>
    cases n with
    | zero => simp [pieces]
    | succ m =>
      rw [pieces, List.dropLast_cons_of_ne_nil (by simp [pieces])]
      refine List.forall_mem_cons.mpr ⟨?_, ih (count_after_piece h)⟩
      rw [List.length_take]
      omega

/-! ### The end of a ticket -/

theorem ticketDeliveryEnd_ends {s : State} {n : Nat} {frames : List OutFrame} {t : Ticket}
    (hout : s.outbound = .sending (.ticket n) frames) (ht : findTicket s n = some t) :
    exec .ticketDeliveryEnd s = .next (drain [] (freeTicket t (endStream frames s))) := by
  have hfind : findTicket (endStream frames s) n = some t := ht
  change execTicketDeliveryEnd s = _
  simp only [execTicketDeliveryEnd, hout, hfind]

theorem ticketDeliveryEnd_other {s : State} (h : ∀ n frames, s.outbound ≠ .sending (.ticket n) frames) :
    exec .ticketDeliveryEnd s = .next s := by
  change execTicketDeliveryEnd s = _
  unfold execTicketDeliveryEnd
  split
  · exact absurd ‹_› (h _ _)
  · rfl

theorem ticketCollectExpiry_ready {s : State} {n : Nat} {t : Ticket} {start : Tick} (ht : findTicket s n = some t)
    (hstate : t.state = .ready (some start)) :
    exec (.ticketCollectExpiry n) s = .next (if due s ticketSeconds start then
      drain [] (raise .ticketExpired (.ticket n) (t.subject.wire ++ [.u8 t.copy.code]) (freeTicket t s)) else s) := by
  change execTicketCollectExpiry n s = _
  simp only [execTicketCollectExpiry, ht, hstate]

/-- Settles O41: the end of a delivery, the collect timer before it is due and then, and the frames by the pieces they
carry. -/
theorem ticketsEndByDeliveryOrExpiry : Obligations.TicketsEndByDeliveryOrExpiry := by
  refine ⟨fun s => ⟨fun n frames t => ticketDeliveryEnd_ends, ticketDeliveryEnd_other, fun n t start ht hstate => ?_⟩,
    fun tag b fields => ⟨pieces ((b.length + 4095) / 4096) b, ?_, pieces_flatten rfl, pieces_length _ _,
      pieces_bounds rfl, pieces_full rfl⟩⟩
  · rw [ticketCollectExpiry_ready ht hstate]
    by_cases h : (s.timeBase - start).toNat < 3000
    · rw [(due_false_iff s ticketSeconds start).mpr h, if_pos h]
      rfl
    · rw [(due_iff s ticketSeconds start).mpr (Nat.not_lt.mp h), if_neg h]
      rfl
  · rw [deliveryFrames, dataFrames_pieces _ tag 0]
    simp only [Nat.zero_add]

end Sys2Proof.Machine.TicketLaws
end

section
/-! Why a step can leave work waiting that could go on: FILE-PHOTO refills a FAILED record without a follow-up, and
`WorkWf` lets a live item wait for slabs to fetch that record, its location still kept. -/

namespace Sys2Proof.Machine.UnsettledLaws
open Sys2Proof Sys2Proof.Machine

/-! ### A settled state with an item that waits for slabs -/

/-- A FAILED photo of the greatest size, 1,024 slabs, that keeps a location. -/
def failedPhoto : Photo := ⟨5, .failed, 67108864, 0, some ⟨0, 0⟩, 900, 0, 0, 0, none, false, 0, 0⟩

/-- An item on that photo, PENDING. -/
def pendingItem : ItemRec :=
  ⟨.photoFile, .photo 5, .none, .original, false, ⟨1000, 0, 10, 0, 0, 0, 0, 0⟩, false, true, .pending, [], none, none, []⟩

/-- A READY ticket that holds 24,000 slabs. -/
def largeTicket : Ticket :=
  ⟨1, .photo 5, .original, .ready (some 0), ⟨⟨0, 0⟩, 1572864000, 0⟩, List.range 24000, []⟩

/-- A refill of the photo with 1 byte. -/
def smallRefill : FilePhotoReq := ⟨5, 1, 0, 900, 0, 0, 0, none⟩

/-- The part with the item first in the slab-wait list and 8,768 slabs free: too few for 1,024 above the deposit reserve. -/
def waitingPart : State :=
  { State.reset with
    part := .ready, supplyHeld := false
    units := List.replicate 4 ⟨.online, 5000, 5000, 0, 0, none⟩
    photos := [failedPhoto]
    accounts := [⟨7, false, 5000, 0, 0, 1000⟩]
    tickets := [largeTicket], nextTicket := 2
    orders := [⟨1, 7, 1000, 0, [pendingItem], [1], 0⟩], nextOrder := 2
    slabWait := [(1, 1)]
    free := 8768 }

/-- The same with FILE-PHOTO waiting to be run. -/
def refillDue : State := { waitingPart with pending := [.filePhoto ⟨1, some smallRefill⟩] }

theorem refillDue_tables : TablesWf refillDue := by decide +kernel

/-- With no slot bound, no entry and no job, and no item that holds slabs, those held are the one ticket's. -/
theorem heldSlabs_ticket {s : State} {t : Ticket} {it : ItemRec} (hslots : s.slots = List.replicate 4 none)
    (hqueue : s.queue = []) (htickets : s.tickets = [t]) (hjobs : s.jobs = []) (hitems : openItems s = [it])
    (hit : it.slabs = []) : heldSlabs s = t.slabs := by
  simp [heldSlabs, hslots, hqueue, htickets, hjobs, hitems, hit]

theorem heldSlabs_refillDue : heldSlabs refillDue = List.range 24000 := by
  rw [heldSlabs_ticket (s := refillDue) (t := largeTicket) (it := pendingItem) rfl rfl rfl rfl rfl rfl, largeTicket]

theorem refillDue_slabs : SlabsAddUp refillDue := by
  rw [SlabsAddUp, heldSlabs_refillDue]
  refine ⟨List.nodup_range, fun k hk => ?_, ?_, by decide⟩
  · have := List.mem_range.mp hk
    omega
  · rw [List.length_range]
    rfl

theorem refillDue_items : ItemsWf refillDue := List.forall_mem_cons.mpr ⟨⟨by decide, trivial⟩, by simp⟩

theorem refillDue_idle {u : Nat} (hu : u < 4) : (unitAt refillDue u).op = none := by
  match u, hu with
  | 0, _ | 1, _ | 2, _ | 3, _ => rfl

theorem refillDue_queue : QueueWf refillDue :=
  ⟨by decide, fun _ he => absurd he List.not_mem_nil, fun u hu o ho => by cases (refillDue_idle hu).symm.trans ho⟩

theorem refillDue_work : WorkWf refillDue :=
  ⟨by decide +kernel, by decide +kernel, by decide +kernel, by decide +kernel, refillDue_queue, by decide +kernel,
    by decide +kernel, by decide +kernel, refillDue_slabs, by decide +kernel, refillDue_items,
    by decide +kernel, by decide +kernel, trivial, by decide +kernel, by decide⟩

theorem refillDue_settled : Settled refillDue := (settled_iff _).mpr (by decide +kernel)

/-! ### What the refill leaves -/

/-- The photo refilled and slot 0 bound. -/
def refilled : State :=
  replied 1 (.done [.u8 0]) { taken waitingPart with
    photos := [⟨5, .receiving, 1, 0, some ⟨0, 0⟩, 900, 0, 0, 0, none, false, 0, 0⟩]
    free := 8767
    freeCount := 1
    slots := [some ⟨.photo 5, .photo, 1, 0, [], false, 0xFFFFFFFF#32, grantedSlabs 1 waitingPart, 0⟩, none, none, none] }

theorem step_refillDue : step refillDue = .next refilled := by
  change exec (.filePhoto ⟨1, some smallRefill⟩) waitingPart = _
  rw [PhotoLaws.filePhotoBindsASlot 1 smallRefill waitingPart (by decide), if_neg (by decide), if_neg (by decide),
    if_neg (by decide)]
  have hslot : waitingPart.slots.findIdx? Option.isNone = some 0 := rfl
  simp only [hslot]
  rw [if_neg (by decide), if_neg (by decide)]
  rfl

/-- One slab would do for the first member of the slab-wait list, and 8,767 are free. -/
theorem refilled_not_settled : ¬ Settled refilled := by
  intro ⟨_, _, _, _, _, hslabs⟩
  have hshort : (8767 : Nat) < 1 + 8192 := hslabs (1, 1) rfl pendingItem rfl ⟨⟨0, 0⟩, 1, 0⟩ rfl
  omega

/-- Refutes O42: FILE-PHOTO refills the FAILED photo that the first member of the slab-wait list waits to fetch, with so few
bytes that the slabs left would do, and no follow-up is worked. `WorkWf` says that a live item's plate is STORED and says
nothing of its photo, so it allows the state; with the photo STORED the request would be refused. That the state is reached
from reset is not claimed. -/
theorem not_settledStays : ¬ Obligations.SettledStays := fun h =>
  refilled_not_settled (h refillDue refilled refillDue_tables refillDue_work refillDue_settled step_refillDue)

end Sys2Proof.Machine.UnsettledLaws
end

section
/-! The profile store's two writes (R111, R112). -/

namespace Sys2Proof.Machine.ProfileLaws
open Sys2Proof Sys2Proof.Machine

/-- An S_min of 0 is stored as 1 (R111). -/
theorem max_one_eq (n : Nat) : max 1 n = if n = 0 then 1 else n := by
  split <;> omega

/-- The numeric fields written, as R111 says them; the tone table stays. -/
theorem setFields_eq (r : ProfileReq) :
    Profile.setFields r = fun p => ⟨r.pLo, r.pHi, if r.sMin = 0 then 1 else r.sMin, r.threshold, p.tone⟩ := by
  funext p
  rw [← max_one_eq]
  rfl

/-- Settles O44: R111's range checks and the fields written, then R112's two checks and the table written. -/
theorem profileRequestsWriteTheStore : Obligations.ProfileRequestsWriteTheStore := by
  refine fun tag s => ⟨fun r h => ends_request h ?_, fun r h => ends_request h ?_⟩
  · unfold setProfile
    rw [ite_or, ite_or, max_one_eq, setFields_eq]
    refine ends_ensure (by simp) fun _ => ?_
    refine ends_ensure (by simp) fun _ => ?_
    exact ends_ensure (by simp) fun _ => rfl
  · unfold setTone
    refine ends_ensure (by simp) fun _ => ?_
    exact ends_ensure (by simp) fun _ => rfl

end Sys2Proof.Machine.ProfileLaws
end

section
/-! Items that wait for nothing while a step's work goes on: what no task but one that names them does to them, and
the cancellation of a failed job's items (R125, R126, R162). -/

namespace Sys2Proof.Machine.JobLaws
open Sys2Proof Sys2Proof.Machine Sys2Proof.Machine.CascadeLaws

/-! ### What a change leaves alone of an item -/

/-- The item joins no wait list, and its record stays or goes with its order. -/
structure LeftAlone (x : Nat × Nat) (s t : State) : Prop where
  listed : Listed t x → Listed s x
  waiting : x ∈ t.restoreWait → x ∈ s.restoreWait
  item : findItem t x.1 x.2 = findItem s x.1 x.2 ∨ findItem t x.1 x.2 = none

theorem LeftAlone.refl (x : Nat × Nat) (s : State) : LeftAlone x s s := ⟨id, id, .inl rfl⟩

theorem LeftAlone.trans {x : Nat × Nat} {s t u : State} (h : LeftAlone x s t) (h' : LeftAlone x t u) :
    LeftAlone x s u where
  listed hx := h.listed (h'.listed hx)
  waiting hx := h.waiting (h'.waiting hx)
  item := h'.item.elim (fun he => he ▸ h.item) .inr

/-- The book stays, and the lists at most lose members. -/
theorem leftAlone_shrink {s t : State} (x : Nat × Nat) (ho : t.orders = s.orders) (hs : t.slabWait ⊆ s.slabWait)
    (hj : JobsShrink s t) (hr : t.restoreWait ⊆ s.restoreWait) : LeftAlone x s t where
  listed hx := hx.imp (fun hm => hs hm) fun ⟨j, hjt, hm⟩ =>
    let ⟨k, hk, _, _, hw⟩ := hj j hjt
    ⟨k, hk, hw hm⟩
  waiting hx := hr hx
  item := .inl (by rw [findItem_congr ho])

theorem leftAlone_raise (x : Nat × Nat) (k : NoticeKind) (y : NoticeSubject) (d : List Wire) (s : State) :
    LeftAlone x s (raise k y d s) :=
  leftAlone_shrink x (by simp) (by simp) (.of_eq (by simp)) (by simp)

theorem leftAlone_endJob (x : Nat × Nat) (j : Job) (s : State) : LeftAlone x s (endJob j s) :=
  leftAlone_shrink x (by simp) (by simp) (.of_subset (by rw [endJob_jobs]; exact List.filter_subset_self _)) (by simp)

/-- A change of another item of the book. -/
theorem leftAlone_modifyItem {x : Nat × Nat} {o i : Nat} (hi : i ≠ 0) (hx : (o, i) ≠ x) (f : ItemRec → ItemRec)
    (s : State) : LeftAlone x s (modifyItem o i f s) where
  listed hl := by simpa [Listed] using hl
  waiting hl := by simpa using hl
  item := .inl (by rw [findItem_modifyItem hi, if_neg (Ne.symm hx)])

theorem leftAlone_leaveTurn (x : Nat × Nat) (o i : Nat) (s : State) : LeftAlone x s (leaveTurn o i s) where
  listed hl := by simpa [Listed] using hl
  waiting hl := by simpa using hl
  item := .inl (by rw [findItem_leaveTurn])

theorem leftAlone_detachItems {x : Nat × Nat} {l : List (Nat × Nat)} (hl : ∀ y ∈ l, y.2 ≠ 0) (hx : x ∉ l)
    (s : State) : LeftAlone x s (detachItems l s) := by
  induction l generalizing s with
  | nil => exact .refl x s
  | cons y l ih =>
    obtain ⟨hy, hl⟩ := List.forall_mem_cons.mp hl
    obtain ⟨hxy, hx⟩ := List.ne_and_not_mem_of_not_mem_cons hx
    exact (leftAlone_modifyItem hy hxy.symm _ s).trans (ih hl hx _)

/-- An order's settlement takes its items with it. -/
theorem findItem_settleIfDone (o : Nat) (s : State) (n i : Nat) :
    findItem (settleIfDone o s) n i = findItem s n i ∨ findItem (settleIfDone o s) n i = none := by
  cases h : findItem (settleIfDone o s) n i with
  | none => exact .inr rfl
  | some it => exact .inl (findItem_of_settleIfDone h).symm

/-- A cancellation adds nobody to the restore-wait list. -/
theorem restoreWait_cancelItem (o i : Nat) (reason : CancelReason) (s : State) :
    (cancelItem o i reason s).1.restoreWait ⊆ s.restoreWait := by
  have hgive : ∀ it, (giveUp o i it s).restoreWait ⊆ s.restoreWait := fun it => by
    unfold giveUp
    split <;> simp [List.filter_subset_self]
  unfold cancelItem
  split
  · exact List.Subset.refl _
  · next it _ =>
    split
    · exact List.Subset.refl _
    · simpa using hgive it

/-- The lists after a cancellation lose members at most. -/
theorem listed_cancelItem {o i : Nat} {reason : CancelReason} {s : State} {x : Nat × Nat}
    (hx : Listed (cancelItem o i reason s).1 x) : Listed s x := by
  obtain ⟨-, hs⟩ | ⟨it, t, -, hs, -, hw, hj, -⟩ := cancelItem_cases o i reason s
  · rwa [hs] at hx
  · obtain ⟨hshrink, hsub⟩ := giveUp_lists o i it s
    rw [hs] at hx
    obtain hm | ⟨j, hjt, hm⟩ := hx
    · exact .inl (hsub.subset (hw ▸ (by simpa using hm)))
    · obtain ⟨k, hk, -, -, hkw⟩ := hshrink j (hj ▸ (by simpa using hjt))
      exact .inr ⟨k, hk, hkw hm⟩

/-- The cancellation of another item (R162). -/
theorem leftAlone_cancelItem {x : Nat × Nat} {o i : Nat} (hx : (o, i) ≠ x) (reason : CancelReason) (s : State) :
    LeftAlone x s (cancelItem o i reason s).1 where
  listed := listed_cancelItem
  waiting hm := restoreWait_cancelItem o i reason s hm
  item := by
    obtain ⟨-, hs⟩ | ⟨it, t, hi, hs, ht, -⟩ := cancelItem_cases o i reason s
    · exact .inl (by rw [hs])
    · have hsame : findItem t x.1 x.2 = findItem s x.1 x.2 := by
        rw [ht, findItem_modifyItem (ne_zero_of_findItem hi), if_neg (Ne.symm hx)]
      rw [hs, ← hsame]
      exact findItem_settleIfDone o t x.1 x.2

/-! ### An item at rest -/

/-- The item is not PENDING and stands in no wait list, and so much is known of its record while it is in the book. -/
structure AtRest (p : ItemRec → Prop) (x : Nat × Nat) (s : State) : Prop where
  book : BookWf s
  listed : ¬ Listed s x
  waiting : x ∉ s.restoreWait
  item : ∀ it, findItem s x.1 x.2 = some it → it.state ≠ .pending ∧ p it

theorem AtRest.leftAlone {p : ItemRec → Prop} {x : Nat × Nat} {s t : State} (h : AtRest p x s) (hb : BookWf t)
    (ht : LeftAlone x s t) : AtRest p x t where
  book := hb
  listed hx := h.listed (ht.listed hx)
  waiting hx := h.waiting (ht.waiting hx)
  item it hit := ht.item.elim (fun he => h.item it (he ▸ hit)) fun he => by rw [he] at hit; cases hit

/-- The task is not about the item. A re-check's task, which no other task gives, is left out. -/
def Spares (x : Nat × Nat) : Task → Prop
  | .cancel o i _ => (o, i) ≠ x
  | .workItem o i => (o, i) ≠ x
  | .goFetch o i => (o, i) ≠ x
  | .rework o i => (o, i) ≠ x
  | .failAtOnce owner => owner ≠ .item x.1 x.2
  | .returnItems .. => False
  | _ => True

/-- What a task does and gives has nothing to do with the item. -/
abbrev SparesAll (x : Nat × Nat) (s : State) (y : State × List Task) : Prop :=
  LeftAlone x s y.1 ∧ ∀ u ∈ y.2, Spares x u

section
variable {p : ItemRec → Prop} {x : Nat × Nat} {s : State}

theorem sparesAll_nothing : SparesAll x s (s, []) := ⟨.refl x s, by simp⟩

theorem spares_failIfUnreadable {o : Owner} (ho : o ≠ .item x.1 x.2) (u : Nat) :
    ∀ t ∈ failIfUnreadable s o u, Spares x t := by
  unfold failIfUnreadable
  split
  · simpa [Spares] using ho
  · simp

theorem sparesAll_activateOrder (h : AtRest p x s) {o : Nat} (hw : wanted s (.activate o) = true) :
    SparesAll x s (activateOrder o s) := by
  unfold activateOrder
  split
  · exact sparesAll_nothing
  · next y hy =>
    split
    · exact sparesAll_nothing
    · next i rest hturn =>
      split
      · exact sparesAll_nothing
      · next it hit =>
        have hfound : findItem s o i = some it := (findItem_of_findOrder hy).trans hit
        obtain ⟨-, hpending⟩ : readyToWork s o i = true ∧ it.state = .pending := by
          simpa [wanted, hy, hturn, hit] using hw
        have hx : (o, i) ≠ x := by
          rintro rfl
          exact (h.item it hfound).1 hpending
        have hi := ne_zero_of_findItem hfound
        split
        · exact ⟨(leftAlone_modifyItem hi hx _ s).trans (leftAlone_leaveTurn x o i _), by simp [Spares]⟩
        · exact ⟨leftAlone_modifyItem hi hx _ s, by simpa [Spares] using hx⟩

theorem sparesAll_askRestore {o i : Nat} (hi : i ≠ 0) (hx : (o, i) ≠ x) (r : PlateRef) (q : Nat) :
    SparesAll x s (askRestore o i r q s) := by
  have waits : SparesAll x s (waitForJob o i s, []) := by
    have hset : LeftAlone x s (setItemState o i (.waitRestore none) s) := leftAlone_modifyItem hi hx _ s
    refine ⟨⟨hset.listed, fun hm => ?_, hset.item⟩, by simp⟩
    exact (List.mem_append.mp hm).elim hset.waiting fun hm => absurd (List.mem_singleton.mp hm).symm hx
  have joins : ∀ (t : State) (f : ItemRec → ItemRec), t.orders = s.orders → t.slabWait = s.slabWait →
      t.restoreWait = s.restoreWait →
      (∀ j ∈ t.jobs, ∀ y ∈ j.waiting, (∃ k ∈ s.jobs, y ∈ k.waiting) ∨ y = (o, i)) →
      SparesAll x s (modifyItem o i f t, [.examineWaiting]) := fun t f ho hs hr hj => by
    have hjoin : LeftAlone x s t := by
      refine ⟨fun hl => hl.imp (fun hm => hs ▸ hm) fun ⟨j, hjt, hm⟩ => ?_, fun hm => hr ▸ hm,
        .inl (by rw [findItem_congr ho])⟩
      exact (hj j hjt x hm).resolve_right (Ne.symm hx)
    exact ⟨hjoin.trans (leftAlone_modifyItem hi hx f t), by simp [Spares]⟩
  unfold askRestore
  split
  · next j hj =>
    split
    · refine joins _ _ rfl rfl rfl fun k hk y hy => ?_
      obtain ⟨m, hm, rfl⟩ := List.mem_map.mp hk
      split at hy
      · obtain hy | hy := List.mem_append.mp hy
        · exact .inl ⟨m, hm, hy⟩
        · exact .inr (List.mem_singleton.mp hy)
      · exact .inl ⟨m, hm, hy⟩
    · exact waits
  · split
    · refine joins _ _ rfl rfl rfl fun k hk y hy => ?_
      obtain hk | hk := List.mem_append.mp hk
      · exact .inl ⟨k, hk, hy⟩
      · obtain rfl := List.mem_singleton.mp hk
        exact .inr (List.mem_singleton.mp hy)
    · exact waits

theorem sparesAll_workActive {o i : Nat} (hx : (o, i) ≠ x) : SparesAll x s (workActive o i s) := by
  unfold workActive
  split
  · exact sparesAll_nothing
  · next it hit =>
    split
    · split
      · exact ⟨.refl x s, by simpa [Spares] using hx⟩
      · exact sparesAll_askRestore (ne_zero_of_findItem hit) hx _ _
    · exact ⟨.refl x s, by simpa [Spares] using hx⟩

theorem sparesAll_joinSlabWait {o i : Nat} (hi : i ≠ 0) (hx : (o, i) ≠ x) : SparesAll x s (joinSlabWait o i s) := by
  have hset : LeftAlone x s (setItemState o i .pending s) := leftAlone_modifyItem hi hx _ s
  refine ⟨⟨fun hl => ?_, hset.waiting, hset.item⟩, ?_⟩
  · refine hset.listed (hl.imp (fun hm => ?_) id)
    exact (List.mem_append.mp hm).elim id fun hm => absurd (List.mem_singleton.mp hm).symm hx
  · unfold joinSlabWait
    split <;> simp [Spares]

theorem sparesAll_grantSlabs (h : AtRest p x s) : SparesAll x s (grantSlabs s) := by
  unfold grantSlabs
  split
  · exact sparesAll_nothing
  · next o i it src hh =>
    obtain ⟨rest, hs, hi, -⟩ := slabHead_found hh
    have hx : (o, i) ≠ x := by
      rintro rfl
      exact h.listed (.inl (by rw [hs]; exact List.mem_cons_self))
    extract_lets n t u
    have hleave : LeftAlone x s t := leftAlone_shrink x (by simp [t]) (by simp [t, List.tail_subset])
      (.of_eq (by simp [t])) (by simp [t])
    have hfetch : LeftAlone x t u := leftAlone_modifyItem (ne_zero_of_findItem hi) hx _ t
    refine ⟨(hleave.trans hfetch).trans (leftAlone_shrink x (by simp) (by simp) (.of_eq (by simp)) (by simp)), ?_⟩
    refine List.forall_mem_append.mpr ⟨spares_failIfUnreadable ?_ _, by simp [Spares]⟩
    rintro ⟨⟩
    exact hx rfl

theorem sparesAll_enterFetching : SparesAll x s (enterFetching s) := by
  refine ⟨leftAlone_shrink x (by simp) (by simp) (jobsShrink_enterFetching s) (by simp), ?_⟩
  unfold enterFetching
  split
  · simp
  · exact spares_failIfUnreadable (by simp) _

theorem sparesAll_failRead {o : Owner} (ho : o ≠ .item x.1 x.2) : SparesAll x s (failRead o s) := by
  obtain ⟨hb, hs, hj⟩ := failRead_book o s
  refine ⟨leftAlone_shrink x hb (by rw [hs]; exact List.Subset.refl _) (.of_eq hj) (by simp), ?_⟩
  unfold failRead ownerFailed
  split
  · simp
  · split
    · split <;> simp
    · simp [Spares]
    · next o i =>
      refine List.forall_mem_singleton.mpr ?_
      rintro rfl
      exact ho rfl

/-- A job's end, with its items going on to wait for none (R162). -/
theorem leftAlone_endJob_detach (h : AtRest p x s) {j : Job} (hj : j ∈ s.jobs) :
    LeftAlone x s (detachItems j.waiting (endJob j s)) ∧ x ∉ j.waiting := by
  have hx : x ∉ j.waiting := fun hm => h.listed (.inr ⟨j, hj, hm⟩)
  refine ⟨(leftAlone_endJob x j s).trans (leftAlone_detachItems (fun y hy => ?_) hx _), hx⟩
  obtain ⟨it, hit⟩ := h.book.lists.found (.inr ⟨j, hj, hy⟩)
  exact ne_zero_of_findItem hit

theorem sparesAll_failJobNow (h : AtRest p x s) (n : Nat) (why : JobEnd) (reason : CancelReason) :
    SparesAll x s (failJobNow n why reason s) := by
  unfold failJobNow
  split
  · exact sparesAll_nothing
  · next j hj =>
    obtain ⟨hends, hx⟩ := leftAlone_endJob_detach h (mem_of_findJob hj)
    refine ⟨hends.trans (leftAlone_raise x ..), List.forall_mem_map.mpr fun y hy => ?_⟩
    rintro rfl
    exact hx hy

theorem sparesAll_installCopy (h : AtRest p x s) (n : Nat) : SparesAll x s (installCopy n s) := by
  unfold installCopy
  split
  · exact sparesAll_nothing
  · next j hj =>
    split
    · next l q hl hq =>
      extract_lets t c u
      have ht : t.orders = s.orders ∧ t.slabWait = s.slabWait ∧ t.jobs = s.jobs ∧ t.restoreWait = s.restoreWait := by
        unfold t; split <;> simp
      obtain ⟨hto, hts, htj, htr⟩ := ht
      have hcopy : LeftAlone x s (modifyPlate j.plate (fun y => { y with restored := some c }) t) :=
        leftAlone_shrink x (by simp [hto]) (by simp [hts]) (.of_eq (by simp [htj])) (by simp [htr])
      have hbook : BookWf (modifyPlate j.plate (fun y => { y with restored := some c }) t) :=
        (goesOn_shrink h.book.lists (by simp [hto]) (by simp [hts]) (.of_eq (by simp [htj]))).bookWf h.book
      obtain ⟨hends, hx⟩ := leftAlone_endJob_detach (h.leftAlone hbook hcopy) (j := j)
        (by simpa [htj] using mem_of_findJob hj)
      refine ⟨(hcopy.trans hends).trans (leftAlone_raise x ..), List.forall_mem_map.mpr fun y hy => ?_⟩
      rintro rfl
      exact hx hy
    · exact sparesAll_nothing

/-- A task that is not about an item at rest leaves it alone, and gives only such tasks. -/
theorem sparesAll_perform (h : AtRest p x s) {t : Task} (ht : Spares x t) : SparesAll x s (perform t s) := by
  unfold perform
  split
  · next hw =>
    cases t with
    | cancel o i reason =>
      refine ⟨leftAlone_cancelItem ht reason s, fun u hu => ?_⟩
      rw [cancelItem_gives hu]
      trivial
    | activate o => exact sparesAll_activateOrder h hw
    | workItem o i => exact sparesAll_workActive ht
    | goFetch o i =>
      obtain ⟨it, hit, -⟩ := readyToWork_found hw
      exact sparesAll_joinSlabWait (ne_zero_of_findItem hit) ht
    | askSlabs => exact sparesAll_grantSlabs h
    | examineWaiting => exact sparesAll_enterFetching
    | failAtOnce o => exact sparesAll_failRead ht
    | failJob n why reason => exact sparesAll_failJobNow h n why reason
    | startRepair n =>
      exact ⟨leftAlone_shrink x (by simp [carryOut]) (by simp [carryOut]) (jobsShrink_enterRepairing n s)
        (by simp [carryOut]), by simp [carryOut]⟩
    | claimPlace n =>
      exact ⟨leftAlone_shrink x (by simp [carryOut]) (by simp [carryOut]) (jobsShrink_enterCommitting n s)
        (by simp [carryOut]), by simp [carryOut]⟩
    | install n => exact sparesAll_installCopy h n
    | rework o i =>
      exact ⟨leftAlone_shrink x rfl (List.Subset.refl _) (.of_eq rfl) (List.filter_subset_self _),
        List.forall_mem_singleton.mpr ht⟩
    | returnItems o l => exact ht.elim
  · exact sparesAll_nothing

theorem atRest_perform (h : AtRest p x s) {t : Task} (ht : Spares x t) :
    AtRest p x (perform t s).1 ∧ ∀ u ∈ (perform t s).2, Spares x u :=
  (sparesAll_perform h ht).imp (h.leftAlone (bookWf_perform t h.book)) id

/-- The follow-ups are about no item at rest. -/
theorem spares_followUp (h : AtRest p x s) {t : Task} (ht : followUp s = some t) : Spares x t := by
  unfold followUp at ht
  split at ht
  · cases ht; trivial
  split at ht
  · cases ht; trivial
  split at ht
  · cases ht; trivial
  split at ht
  · next y hy =>
    cases ht
    rintro rfl
    exact h.waiting (List.mem_of_find?_eq_some hy)
  split at ht
  · cases ht; trivial
  split at ht <;> cases ht
  trivial

end

/-! ### All that a step's tasks lead to -/

section
variable {p : ItemRec → Prop} {x : Nat × Nat}

theorem atRest_workOff (n : Nat) (l : List Task) (w : Tally) (h : AtRest p x w.state) (hl : ∀ t ∈ l, Spares x t) :
    AtRest p x (workOff n l w).state := by
  induction n generalizing l w with
  | zero => exact h
  | succ n ih =>
    cases l with
    | nil => exact h
    | cons t l =>
      obtain ⟨ht, hl⟩ := List.forall_mem_cons.mp hl
      obtain ⟨hp, hq⟩ := atRest_perform h ht
      exact ih _ _ hp (List.forall_mem_append.mpr ⟨hq, hl⟩)

theorem atRest_workTask (n : Nat) (w : Tally) (h : AtRest p x w.state) {t : Task} (ht : Spares x t) :
    AtRest p x (workTask n w t).state := by
  obtain ⟨hp, hq⟩ := atRest_perform h ht
  exact atRest_workOff n _ _ hp hq

theorem atRest_drainTasks (n : Nat) (l : List Task) (w : Tally) (h : AtRest p x w.state) (hl : ∀ t ∈ l, Spares x t) :
    AtRest p x (drainTasks n l w).state := by
  induction l generalizing w with
  | nil => exact h
  | cons t l ih =>
    obtain ⟨ht, hl⟩ := List.forall_mem_cons.mp hl
    exact ih _ (atRest_workTask n w h ht) hl

theorem atRest_followUps (k n : Nat) (w : Tally) (h : AtRest p x w.state) : AtRest p x (followUps k n w).state := by
  induction k generalizing w with
  | zero => exact h
  | succ k ih =>
    unfold followUps
    split
    · exact h
    · next t ht => exact ih _ (atRest_workTask n w h (spares_followUp h ht))

/-- The own cancellation of an item that waits for no job (R162). -/
theorem atRest_cancelItem {s : State} (h : AtRest (fun it => it.state = .waitRestore none) x s) (reason : CancelReason) :
    AtRest (fun it => it.state = .cancelled reason ∧ it.slabs = []) x (cancelItem x.1 x.2 reason s).1 where
  book := bookWf_perform (.cancel x.1 x.2 reason) h.book
  listed hx := h.listed (listed_cancelItem hx)
  waiting hx := h.waiting (restoreWait_cancelItem x.1 x.2 reason s hx)
  item it hit := by
    obtain ⟨hdead, hs⟩ | ⟨y, t, hy, hs, ht, -⟩ := cancelItem_cases x.1 x.2 reason s
    · rw [hs] at hit
      have hlive : it.live = true := by rw [ItemRec.live, (h.item it hit).2]
      simp [liveSubject, hit, Option.filter, hlive] at hdead
    · have hfound := findItem_of_settleIfDone (hs ▸ hit)
      rw [ht, findItem_modifyItem (ne_zero_of_findItem hy), if_pos rfl, hy] at hfound
      obtain rfl := Option.some.inj hfound
      simp [ItemRec.finish]

/-- Each of a list of items that wait for no job is CANCELLED for the reason given, or gone with its order, once all that
the cancellations lead to is done. -/
theorem drain_cancels {s : State} {l : List (Nat × Nat)} (hnd : l.Nodup) (hx : x ∈ l)
    (h : AtRest (fun it => it.state = .waitRestore none) x s) (reason : CancelReason) :
    AtRest (fun it => it.state = .cancelled reason ∧ it.slabs = []) x
      (drain (l.map fun y => .cancel y.1 y.2 reason) s) := by
  obtain ⟨before, after, rfl⟩ := List.append_of_mem hx
  obtain ⟨-, hnd, hbefore⟩ := List.nodup_append.mp hnd
  have hspares : ∀ k : List (Nat × Nat), x ∉ k → ∀ t ∈ k.map fun y => Task.cancel y.1 y.2 reason, Spares x t := by
    intro k hk t ht
    obtain ⟨y, hy, rfl⟩ := List.mem_map.mp ht
    rintro rfl
    exact hk hy
  refine atRest_followUps _ _ _ ?_
  rw [drainTasks, List.map_append, List.map_cons, List.foldl_append, List.foldl_cons]
  refine atRest_drainTasks _ _ _ (atRest_workOff _ _ _ (atRest_cancelItem ?_ reason) fun u hu => ?_)
    (hspares after (List.nodup_cons.mp hnd).1)
  · exact atRest_drainTasks _ _ _ h (hspares before fun hm => hbefore x hm x List.mem_cons_self rfl)
  · rw [cancelItem_gives hu]
    trivial

end

end Sys2Proof.Machine.JobLaws
end


section
/-! The Restoration Queue: RESTORE, CANCEL-JOB and the stages of a job (R115 to R126). -/

namespace Sys2Proof.Machine.JobLaws
open Sys2Proof Sys2Proof.Machine Sys2Proof.Machine.CascadeLaws
  Sys2Proof.Machine.TileLaws

/-! ### The end of a job (R125, R126) -/

/-- What a job's end leaves, as one record. -/
theorem endJob_eq (j : Job) (s : State) : endJob j s = { s with
    free := s.free + (j.inputSlabs.length + j.outputSlabs.length)
    reads := s.reads.filter fun r => decide (r.owner ≠ .job j.number)
    units := s.units.map (UnitRec.orphan (.job j.number))
    jobs := s.jobs.filter fun x => decide (x.number ≠ j.number)
    engine := if s.engine.any (fun w => decide (w.job = j.number)) then none else s.engine } := by
  rw [← List.length_append]
  rfl

/-- Every item of the list that is in the book waits for no job, and every other item is as it was (R162). -/
theorem findItem_detachItems {l : List (Nat × Nat)} (hl : ∀ x ∈ l, 1 ≤ x.2) {s : State} {o i : Nat} {it : ItemRec}
    (h : findItem s o i = some it) :
    findItem (detachItems l s) o i = some (if (o, i) ∈ l then { it with state := .waitRestore none } else it) := by
  induction l generalizing s it with
  | nil => exact h
  | cons x l ih =>
    obtain ⟨hx, hl⟩ := List.forall_mem_cons.mp hl
    have hset := findItem_modifyItem (o := x.1) (Nat.ne_of_gt hx) (fun y => { y with state := .waitRestore none }) s o i
    rw [h] at hset
    by_cases hxi : (o, i) = x
    · rw [if_pos hxi] at hset
      refine (ih hl hset).trans ?_
      simp [hxi]
    · rw [if_neg hxi] at hset
      refine (ih hl hset).trans ?_
      simp [hxi]

/-! ### The stages of a job (R119 to R125) -/

/-- While a job is FETCHING no other enters (R119). -/
theorem waitingHead_fetching {s : State} (h : ∃ j ∈ s.jobs, j.state = .fetching) : waitingHead s = none := by
  have : (s.jobs.any fun j => decide (j.state = .fetching)) = true := by simpa using h
  simp [waitingHead, this]

theorem waitingHead_noneWaits {s : State} (h : ∀ j ∈ s.jobs, j.state ≠ .waiting) : waitingHead s = none := by
  have hq : (queueOrder s).find? (fun j => decide (j.state = .waiting)) = none := by
    refine List.find?_eq_none.mpr fun j hj => ?_
    have : j ∈ s.jobs := by
      simp only [queueOrder, List.mem_append, List.mem_filter] at hj
      tauto
    simpa using h j this
  simp [waitingHead, hq]

/-- The first WAITING job in queue order enters when the pool has its slabs (R119). -/
theorem waitingHead_first {s : State} {j : Job} {src : CopySource} (hf : ∀ j ∈ s.jobs, j.state ≠ .fetching)
    (hj : (queueOrder s).find? (fun j => decide (j.state = .waiting)) = some j)
    (hc : copySource s (.plate j.plate) .original = some src) :
    waitingHead s = if s.free < 2 * ((src.size + 65535) / 65536) + 8192 then none else some (j, src) := by
  have hnone : (s.jobs.any fun j => decide (j.state = .fetching)) = false := by simpa using hf
  have hgrant : canGrant s (2 * slabsFor src.size) = true ↔ ¬ s.free < 2 * ((src.size + 65535) / 65536) + 8192 :=
    decide_eq_true_iff.trans Nat.not_lt.symm
  simp only [waitingHead, hnone, hj, hc, Option.bind_some, hgrant]
  by_cases hroom : s.free < 2 * ((src.size + 65535) / 65536) + 8192 <;> simp [hroom]

theorem perform_examineWaiting (s : State) : perform .examineWaiting s = enterFetching s := rfl

theorem enterFetching_none {s : State} (h : waitingHead s = none) : enterFetching s = (s, []) := by
  simp only [enterFetching, h]

theorem failIfUnreadable_eq (s : State) (o : Owner) (u : Nat) : failIfUnreadable s o u =
    if (unitAt s u).state = .faulted ∨ (unitAt s u).state = .absent then [.failAtOnce o] else [] := by
  unfold failIfUnreadable
  cases (unitAt s u).state <;> rfl

theorem enterFetching_first {s : State} {j : Job} {src : CopySource} (h : waitingHead s = some (j, src)) :
    enterFetching s = ({ s with
        free := s.free - 2 * slabsFor src.size
        freeCount := s.freeCount + 1
        jobs := s.jobs.map fun y => if y.number = j.number then { y with
          state := .fetching, landed := false
          inputSlabs := (grantedSlabs (2 * slabsFor src.size) s).take (slabsFor src.size)
          outputSlabs := (grantedSlabs (2 * slabsFor src.size) s).drop (slabsFor src.size) } else y
        reads := s.reads ++ [readOf (.job j.number) (.plate j.plate) .original src] },
      failIfUnreadable s (.job j.number) src.loc.unit) := by
  simp only [enterFetching, h]
  rfl

theorem perform_startRepair {n : Nat} {j : Job} {s : State} (h : findJob s n = some j) (hst : j.state = .fetching)
    (hl : j.landed = true) :
    perform (.startRepair n) s = if s.engine.isSome then (s, []) else (enterRepairing n s, []) := by
  cases he : s.engine <;> simp [perform, wanted, carryOut, h, hst, hl, he]

theorem perform_claimPlace {n : Nat} {j : Job} {s : State} (h : findJob s n = some j) (hst : j.state = .repaired) :
    perform (.claimPlace n) s = (enterCommitting n s, []) :=
  perform_wanted (by simp [wanted, h, hst])

theorem perform_install {n : Nat} {j : Job} {l : Location} {s : State} (h : findJob s n = some j)
    (hst : j.state = .committing) (hl : j.stored = some l) :
    perform (.install n) s = if copyHold s j.plate ≠ 0 then (s, []) else installCopy n s := by
  by_cases hc : copyHold s j.plate = 0 <;> simp [perform, wanted, carryOut, h, hst, hl, hc]

theorem perform_failJob {n : Nat} {j : Job} {s : State} (h : findJob s n = some j) (hst : j.stored = none)
    (he : findEntry s (.restored n) = none) (why : JobEnd) (reason : CancelReason) :
    perform (.failJob n why reason) s = failJobNow n why reason s :=
  perform_wanted (by simp [wanted, h, hst, he])

/-- What the end of a job without a copy comes to (R125, R126). -/
theorem failJobNow_found {n : Nat} {j : Job} {s : State} (h : findJob s n = some j) (why : JobEnd)
    (reason : CancelReason) :
    failJobNow n why reason s =
      (raise .jobFailed (.job n) (Subject.wire (.plate j.plate) ++ [.u8 j.profile, .u8 why.code, .u16 j.waiting.length])
        (detachItems j.waiting (endJob j s)), j.waiting.map fun x => .cancel x.1 x.2 reason) := by
  simp only [failJobNow, h, raiseJobFailed, number_of_findJob h]

/-! ### RESTORE (R116, R117) -/

/-- The host asks for DESK or ROUTINE; anything else is MALFORMED (R116). -/
theorem hostPriority_eq (n : Nat) : hostPriority n =
    if n ≠ 1 ∧ n ≠ 3 then none else some (if n = 1 then .desk else .routine) := by
  unfold hostPriority
  split <;> simp_all

/-- Only DESK raises a job that is there; ROUTINE is the lowest (R117). -/
theorem raisedTo_host (n : Nat) (p : Priority) :
    (if n = 1 then Priority.desk else .routine).raisedTo p = if n = 1 then .desk else p := by
  by_cases h : n = 1 <;> cases p <;> simp [h, Priority.raisedTo]

/-- The host joins a job (R117). -/
theorem joinJob_eq (j : Job) (n : Nat) (s : State) :
    joinJob j (if n = 1 then .desk else .routine) s = drain [] { s with
      jobs := s.jobs.map fun y => if y.number = j.number then { y with
        hostInterest := true
        priority := if n = 1 then .desk else y.priority } else y } := by
  simp only [joinJob, modifyJob, raisedTo_host]

/-- Where no copy of the profile asked for is there, RESTORE's lookup finds none (R117). -/
theorem filter_profile_none {o : Option RestoredCopy} {n : Nat} (h : ¬ ∃ c, o = some c ∧ c.profile = n) :
    (o.filter fun c => decide (c.profile = n)) = none := by
  simpa [Option.filter_eq_none_iff] using h

/-! ### CANCEL-JOB (R126) -/

/-- The state in which CANCEL-JOB's cancellations begin. -/
abbrev jobCancelled (j : Job) (s : State) : State :=
  raise .jobFailed (.job j.number) (Subject.wire (.plate j.plate) ++ [.u8 j.profile, .u8 3, .u16 j.waiting.length])
    (detachItems j.waiting (endJob j (taken s)))

/-- There each of the job's items waits for no job and stands in no list. -/
theorem atRest_jobCancelled {s : State} (h : WorkWf s) {j : Job} (hj : j ∈ s.jobs) {x : Nat × Nat}
    (hx : x ∈ j.waiting) : AtRest (fun it => it.state = .waitRestore none) x (jobCancelled j s) := by
  obtain ⟨-, -, -, -, -, -, -, hwaits, -, -, -, -, ⟨hnumbers, -⟩, -⟩ := h
  have hlists : ListsAgree (taken s) :=
    (goesOn_shrink (listsAgree_of_waitsWf hwaits) (by simp) (by simp) (.of_eq (by simp))).lists
  have hbook : BookWf (detachItems j.waiting (endJob j (taken s))) :=
    (goesOn_endJob_detach hlists hj).bookWf ⟨hlists, hnumbers⟩
  have hpos : ∀ y ∈ j.waiting, 1 ≤ y.2 := fun y hy => by
    obtain ⟨it, hit⟩ := hlists.found (.inr ⟨j, hj, hy⟩)
    exact Nat.one_le_iff_ne_zero.mpr (ne_zero_of_findItem hit)
  have hstate : itemState s x = some (.waitRestore (some j.number)) := (listsAgree_of_waitsWf hwaits).jobs j hj x hx
  obtain ⟨-, -, -, -, -, -, hrestore, -⟩ := hwaits
  refine AtRest.leftAlone (s := detachItems j.waiting (endJob j (taken s))) ⟨hbook, fun hl => ?_, fun hm => ?_,
    fun it hit => ?_⟩ ((goesOn_shrink hbook.lists (by simp) (by simp) (.of_eq (by simp))).bookWf hbook)
    (leftAlone_raise ..)
  · exact not_listed_endJob hlists hj hx (by simpa [Listed] using hl)
  · have := hstate.symm.trans (itemState_of_activeIn (hrestore x (by simpa using hm)))
    cases this
  · obtain ⟨y, hy⟩ := hlists.found (.inr ⟨j, hj, hx⟩)
    have hfound : findItem (endJob j (taken s)) x.1 x.2 = some y :=
      (congrFun₂ (findItem_congr (by simp)) x.1 x.2).trans hy
    rw [findItem_detachItems hpos hfound, if_pos hx] at hit
    obtain rfl := Option.some.inj hit
    simp

/-- CANCEL-JOB of a job that is not COMMITTING (R126). -/
theorem cancelJob_ends {tag n : Nat} {j : Job} {s : State} (hj : findJob s n = some j) (hst : j.state ≠ .committing)
    (hn : n ≠ 0 ∧ n ≤ 255) :
    (Host.Outcome.next (answer tag (taken s) (cancelJob n (taken s))) : Answered) =
      endsDone tag [.u8 j.state.code, .u16 j.waiting.length]
        (drain (j.waiting.map fun x => .cancel x.1 x.2 .jobCancelled) (jobCancelled j s)) := by
  obtain rfl := number_of_findJob hj
  have hfind : findJob (taken s) j.number = some j := hj
  simp [cancelJob, hn, hfind, hst, failJobNow_found hfind, JobEnd.code]

/-- Settles O43: RESTORE and CANCEL-JOB by their checks, the items of a cancelled job by their rest until their own
cancellation, and the stages by what each finds. -/
theorem restoreAndCancelJob : Obligations.RestoreAndCancelJob := by
  refine ⟨fun tag r s h => ends_request h ?_, fun tag n s h => ends_request h ?_,
    fun tag n j s h _ hwork hpos hmax hj hst => ?_,
    fun j s => ⟨endJob_eq j s, fun l o i it hl hi => findItem_detachItems hl hi⟩,
    fun s => ⟨fun h => ?_, fun h => ?_, fun j src hf hj hc => ?_⟩,
    fun n j s hj => ⟨fun hst hl => ?_, fun hst => ?_, fun l p hst hl hp => ?_, fun why reason hst he => ?_⟩⟩
  case refine_1 =>
    unfold restorePlate
    rw [show resolve (taken s) r.plate = resolve s r.plate from rfl]
    cases resolve s r.plate with
    | error e => rfl
    | ok x =>
      refine ends_ensure (by simp) fun _ => ?_
      by_cases hprio : r.priority ≠ 1 ∧ r.priority ≠ 3
      · rw [if_pos hprio]
        exact ends_missing (by rw [hostPriority_eq, if_pos hprio])
      rw [if_neg hprio]
      refine ends_found (by rw [hostPriority_eq, if_neg hprio]) ?_
      refine ends_ensure (by cases x.edition.source <;> simp) fun _ => ?_
      refine ends_ensure (by simp) fun _ => ?_
      refine ends_ensure (by simp) fun _ => ?_
      rw [show jobOn (taken s) x.ref = jobOn s x.ref from rfl]
      cases jobOn s x.ref with
      | some j =>
        dsimp only
        by_cases hprofile : j.profile = r.profile
        · rw [if_neg (not_not_intro hprofile), if_pos hprofile, joinJob_eq]
          rfl
        · rw [if_pos hprofile, if_neg hprofile]
          rfl
      | none =>
        by_cases hcopy : ∃ c, x.plate.restored = some c ∧ c.profile = r.profile
        · rw [if_pos hcopy]
          obtain ⟨c, hc, hprofile⟩ := hcopy
          simp [hc, hprofile, Option.filter]
        rw [if_neg hcopy, filter_profile_none hcopy,
          show boundAgainst (taken s) x.ref r.profile [] = boundAgainst s x.ref r.profile [] from rfl]
        by_cases hbound : boundAgainst s x.ref r.profile [] = true
        · rw [if_pos hbound, if_pos hbound]
          rfl
        rw [if_neg hbound, if_neg hbound]
        by_cases hroom : 16 ≤ s.jobs.length
        · rw [if_pos hroom, if_pos (show Config.jobRoom ≤ (taken s).jobs.length from hroom)]
          rfl
        · rw [if_neg hroom, if_neg (show ¬ Config.jobRoom ≤ (taken s).jobs.length from hroom)]
          rfl
  case refine_2 =>
    unfold cancelJob
    refine ends_ensure (by simp) fun _ => ?_
    have hfind : findJob (taken s) n = findJob s n := rfl
    cases hj : findJob s n with
    | none => exact ends_missing (hfind.trans hj)
    | some j =>
      refine ends_found (hfind.trans hj) (ends_ensure (by simp) fun _ => ?_)
      rw [failJobNow_found (hfind.trans hj)]
      rfl
  case refine_3 =>
    have hwaiting : j.waiting.Nodup := by
      obtain ⟨-, -, -, -, -, -, -, ⟨-, -, -, -, -, -, -, hjobs⟩, -⟩ := hwork
      exact (hjobs j (mem_of_findJob hj)).1
    refine ⟨_, ends_request h (cancelJob_ends hj hst ⟨by omega, hmax⟩), fun x hx it hit => ?_⟩
    exact ((drain_cancels hwaiting hx (atRest_jobCancelled hwork (mem_of_findJob hj) hx) _).item it hit).2
  case refine_4 => exact enterFetching_none (waitingHead_fetching h)
  case refine_5 => exact enterFetching_none (waitingHead_noneWaits h)
  case refine_6 =>
    intro k
    have hhead := waitingHead_first hf hj hc
    by_cases hroom : s.free < 2 * k + 8192
    · rw [if_pos hroom] at hhead ⊢
      exact enterFetching_none hhead
    · rw [if_neg hroom] at hhead ⊢
      rw [perform_examineWaiting, enterFetching_first hhead, failIfUnreadable_eq]
      rfl
  case refine_7 =>
    rw [perform_startRepair hj hst hl]
    rfl
  case refine_8 =>
    rw [perform_claimPlace hj hst]
    simp only [enterCommitting, hj]
    split <;> rfl
  case refine_9 =>
    rw [perform_install hj hst hl]
    simp only [installCopy, hj, hl, hp]
    rfl
  case refine_10 => rw [perform_failJob hj hst he, failJobNow_found hj]

end Sys2Proof.Machine.JobLaws
end

section
/-! The tile computation, stage by stage: points, stretch, neighbours, median, despeckle, and the tile's kind (R131 to R140). -/

namespace Sys2Proof.Machine.TileLaws
open Sys2Proof Sys2Proof.Machine

/-! ### Counts and points (R131 to R133) -/

/-- The counts of the two percentiles for every profile's p_lo and p_hi (R132). -/
theorem percentileCount_bounds {lo hi : Nat} (hlo : lo ≤ 49) (hmid : 51 ≤ hi) (hhi : hi ≤ 100) :
    1 ≤ percentileCount lo ∧ percentileCount lo < percentileCount hi ∧ percentileCount hi ≤ 4096 := by
  unfold percentileCount
  omega

theorem cumulative_mono (px : List Nat) {u v : Nat} (h : u ≤ v) : cumulative px u ≤ cumulative px v :=
  List.countP_mono_left fun _ _ hx => decide_eq_true ((of_decide_eq_true hx).trans h)

/-- The last grey value counts every pixel (R131). -/
theorem cumulative_white {px : List Nat} (h : ∀ x ∈ px, x ≤ 255) : cumulative px 255 = px.length :=
  List.countP_eq_length.mpr fun x hx => decide_eq_true (h x hx)

/-- When the last of the values tried has the count, the search stops at the first that has it. -/
theorem pointFrom_least (px : List Nat) (k : Nat) {n v : Nat} (h : k ≤ cumulative px (v + n)) :
    pointFrom px k n v ≤ v + n ∧ k ≤ cumulative px (pointFrom px k n v)
      ∧ ∀ u, v ≤ u → u < pointFrom px k n v → cumulative px u < k := by
  induction n generalizing v with
  | zero => exact ⟨le_rfl, h, fun u hvu huv => absurd huv (Nat.not_lt.mpr hvu)⟩
  | succ n ih =>
    rw [pointFrom]
    by_cases hv : k ≤ cumulative px v
    · rw [if_pos hv]
      exact ⟨by omega, hv, fun u hvu huv => absurd huv (Nat.not_lt.mpr hvu)⟩
    · rw [if_neg hv]
      obtain ⟨hlast, hreached, hleast⟩ := ih (v := v + 1) (by rwa [Nat.add_right_comm])
      refine ⟨by omega, hreached, fun u hvu huv => ?_⟩
      obtain rfl | hlt := hvu.eq_or_lt
      · exact Nat.not_le.mp hv
      · exact hleast u hlt huv

/-- A count the tile has is reached first at its grey point (R133). -/
theorem greyPoint_least {px : List Nat} (hpx : ∀ x ∈ px, x ≤ 255) {k : Nat} (hk : k ≤ px.length) :
    greyPoint px k ≤ 255 ∧ k ≤ cumulative px (greyPoint px k) ∧ ∀ v, v < greyPoint px k → cumulative px v < k := by
  obtain ⟨hlast, hreached, hleast⟩ := pointFrom_least px k (n := 255) (v := 0)
    (by rwa [Nat.zero_add, cumulative_white hpx])
  exact ⟨hlast, hreached, fun v => hleast v (Nat.zero_le v)⟩

/-- A greater count is reached no earlier (R133). -/
theorem greyPoint_mono {px : List Nat} (hpx : ∀ x ∈ px, x ≤ 255) {k m : Nat} (hkm : k ≤ m) (hm : m ≤ px.length) :
    greyPoint px k ≤ greyPoint px m := by
  obtain ⟨-, -, hleast⟩ := greyPoint_least hpx (hkm.trans hm)
  obtain ⟨-, hreached, -⟩ := greyPoint_least hpx hm
  by_contra hlt
  exact absurd (hkm.trans hreached) (Nat.not_le.mpr (hleast _ (Nat.not_le.mp hlt)))

/-! ### Stretch (R135) -/

theorem stretch_black {b w v : Nat} (h : v ≤ b) : stretch b w v = 0 := if_pos h

theorem stretch_white {b w v : Nat} (hb : b < v) (hw : w ≤ v) : stretch b w v = 255 := by
  rw [stretch, if_neg (Nat.not_le.mpr hb), if_pos hw]

theorem stretch_between {b w v : Nat} (hb : b < v) (hw : v < w) :
    stretch b w v = ((v - b) * 510 + (w - b)) / (2 * (w - b)) := by
  rw [stretch, if_neg (Nat.not_le.mpr hb), if_neg (Nat.not_le.mpr hw)]

/-- The quotient by 2 * d of n + d is n / (2 * d) rounded to the nearest, a half up. -/
theorem rounded_bounds (n : Nat) {d : Nat} (hd : 0 < d) :
    n < 2 * d * ((n + d) / (2 * d)) + d ∧ 2 * d * ((n + d) / (2 * d)) ≤ n + d := by
  have hdiv := Nat.div_add_mod (n + d) (2 * d)
  have hrem := Nat.mod_lt (n + d) (show 0 < 2 * d by omega)
  omega

theorem stretch_le (b w v : Nat) : stretch b w v ≤ 255 := by
  obtain hb | hb := le_or_gt v b
  · rw [stretch_black hb]
    omega
  obtain hw | hw := le_or_gt w v
  · rw [stretch_white hb hw]
  · rw [stretch_between hb hw]
    exact Nat.lt_succ_iff.mp (Nat.div_lt_of_lt_mul (by omega))

theorem stretch_mono (b w : Nat) {u v : Nat} (h : u ≤ v) : stretch b w u ≤ stretch b w v := by
  obtain hub | hub := le_or_gt u b
  · rw [stretch_black hub]
    exact Nat.zero_le _
  obtain hwv | hwv := le_or_gt w v
  · rw [stretch_white (hub.trans_le h) hwv]
    exact stretch_le b w u
  · rw [stretch_between hub (h.trans_lt hwv), stretch_between (hub.trans_le h) hwv]
    exact Nat.div_le_div_right (by omega)

theorem stretch_full {v : Nat} (h : v ≤ 255) : stretch 0 255 v = v := by
  unfold stretch
  split
  · omega
  · split <;> omega

/-! ### Neighbours (R136) -/

/-- Two directions never give one position. -/
theorem neighbours_nodup (r c : Nat) : (neighbours r c).Nodup := by
  have hone (q : Prop) [Decidable q] (x : Nat × Nat) : (if q then [x] else []).Nodup := by split <;> simp
  refine (((hone _ _).append (hone _ _) ?_).append (hone _ _) ?_).append (hone _ _) ?_
  all_goals
    rintro ⟨y, z⟩ h h'
    simp only [List.mem_append, List.mem_ite_nil_right, List.mem_singleton, Prod.mk.injEq] at h h'
    omega

theorem mem_neighbours {r c : Nat} (hr : r < 64) (hc : c < 64) (y z : Nat) :
    (y, z) ∈ neighbours r c ↔ y < 64 ∧ z < 64
      ∧ ((z = c ∧ (y + 1 = r ∨ y = r + 1)) ∨ (y = r ∧ (z + 1 = c ∨ z = c + 1))) := by
  simp only [neighbours, List.mem_append, List.mem_ite_nil_right, List.mem_singleton, Prod.mk.injEq]
  omega

/-- Every pixel has a neighbour above or below. -/
theorem exists_mem_neighbours (r c : Nat) : ∃ p, p ∈ neighbours r c := by
  by_cases hr : 0 < r
  · exact ⟨(r - 1, c), by simp [neighbours, hr]⟩
  · exact ⟨(r + 1, c), by simp [neighbours, show r < 63 by omega]⟩

/-! ### Median (R138) -/

theorem insertSorted_eq (x : Nat) (l : List Nat) : insertSorted x l = l.orderedInsert (· ≤ ·) x := by
  induction l with
  | nil => rfl
  | cons y l ih => rw [insertSorted, List.orderedInsert_cons, ih]

theorem sorted_eq (l : List Nat) : sorted l = l.insertionSort (· ≤ ·) := by
  induction l with
  | nil => rfl
  | cons x l ih => rw [sorted, insertSorted_eq, ih, List.insertionSort_cons]

theorem sorted_perm (l : List Nat) : (sorted l).Perm l := sorted_eq l ▸ List.perm_insertionSort _ l

theorem sorted_pairwise (l : List Nat) : (sorted l).Pairwise (· ≤ ·) := sorted_eq l ▸ List.pairwise_insertionSort _ l

/-- An ordered list with the same values is the sorted one. -/
theorem sorted_unique {l m : List Nat} (hlm : l.Perm m) (hm : m.Pairwise (· ≤ ·)) : sorted l = m :=
  List.Perm.eq_of_pairwise' (sorted_pairwise l) hm ((sorted_perm l).trans hlm)

theorem median_four {l : List Nat} {a b c d : Nat} (hab : a ≤ b) (hbc : b ≤ c) (hcd : c ≤ d) (hl : l.Perm [a, b, c, d]) :
    median l = (b + c) / 2 := by
  rw [median, sorted_unique hl (by simp; omega)]

theorem median_three {l : List Nat} {a b c : Nat} (hab : a ≤ b) (hbc : b ≤ c) (hl : l.Perm [a, b, c]) : median l = b := by
  rw [median, sorted_unique hl (by simp; omega)]

theorem median_two {l : List Nat} {a b : Nat} (hab : a ≤ b) (hl : l.Perm [a, b]) : median l = (a + b) / 2 := by
  rw [median, sorted_unique hl (by simp; omega)]

/-- The median of two to four values lies between two of them. -/
theorem median_between {near : List Nat} (htwo : 2 ≤ near.length) (hfour : near.length ≤ 4) :
    (∃ u ∈ near, u ≤ median near) ∧ ∃ v ∈ near, median near ≤ v := by
  have hperm := sorted_perm near
  have hordered := sorted_pairwise near
  rw [← hperm.length_eq] at htwo hfour
  simp only [← hperm.mem_iff, median]
  match hs : sorted near with
  | [] | [_] => simp [hs] at htwo
  | _ :: _ :: _ :: _ :: _ :: _ =>
    simp only [hs, List.length_cons] at hfour
    omega
  | [a, b] =>
    have hab : a ≤ b := List.rel_of_pairwise_cons (hs ▸ hordered) (by simp)
    exact ⟨⟨a, by simp, show a ≤ (a + b) / 2 by omega⟩, b, by simp, show (a + b) / 2 ≤ b by omega⟩
  | [a, b, c] => exact ⟨⟨b, by simp, le_rfl⟩, b, by simp, le_rfl⟩
  | [a, b, c, d] =>
    have hbc : b ≤ c := List.rel_of_pairwise_cons (hs ▸ hordered).of_cons (by simp)
    exact ⟨⟨b, by simp, show b ≤ (b + c) / 2 by omega⟩, c, by simp, show (b + c) / 2 ≤ c by omega⟩

/-! ### Despeckle (R136 to R138) -/

/-- The values next to a pixel. -/
def nearValues (a : Array Nat) (r c : Nat) : List Nat := (neighbours r c).map fun p => pixelAt a p.1 p.2

theorem darkSpeck_iff (t s : Nat) (near : List Nat) : darkSpeck t s near = true ↔ ∀ v ∈ near, s + t < v := by
  simp [darkSpeck]

theorem lightSpeck_iff (t s : Nat) (near : List Nat) : lightSpeck t s near = true ↔ ∀ v ∈ near, v + t < s := by
  simp [lightSpeck]

theorem despeckled_speck {t : Nat} {a : Array Nat} {r c : Nat}
    (h : (∀ v ∈ nearValues a r c, pixelAt a r c + t < v) ∨ ∀ v ∈ nearValues a r c, v + t < pixelAt a r c) :
    despeckled t a r c = (median (nearValues a r c), true) := by
  rw [← darkSpeck_iff, ← lightSpeck_iff, ← Bool.or_eq_true] at h
  exact if_pos h

theorem despeckled_kept {t : Nat} {a : Array Nat} {r c : Nat} (hdark : ∃ v ∈ nearValues a r c, v ≤ pixelAt a r c + t)
    (hlight : ∃ v ∈ nearValues a r c, pixelAt a r c ≤ v + t) : despeckled t a r c = (pixelAt a r c, false) := by
  refine if_neg ?_
  rw [Bool.or_eq_true, darkSpeck_iff, lightSpeck_iff]
  push Not
  exact ⟨hdark, hlight⟩

/-- No difference of two grey values exceeds a threshold of 255 (R137). -/
theorem despeckled_over {t : Nat} {a : Array Nat} (ha : ∀ r c, pixelAt a r c ≤ 255) (ht : 255 ≤ t) (r c : Nat) :
    despeckled t a r c = (pixelAt a r c, false) := by
  obtain ⟨p, hp⟩ := exists_mem_neighbours r c
  have hv : pixelAt a p.1 p.2 ∈ nearValues a r c := List.mem_map_of_mem hp
  have hnear := ha p.1 p.2
  have hpixel := ha r c
  exact despeckled_kept ⟨_, hv, by omega⟩ ⟨_, hv, by omega⟩

/-- A pixel that is no speck keeps its value. -/
theorem despeckled_fst {t : Nat} {a : Array Nat} {r c : Nat} (h : (despeckled t a r c).2 = false) :
    (despeckled t a r c).1 = pixelAt a r c := by
  unfold despeckled at h ⊢
  dsimp only at h ⊢
  split at h
  · cases h
  · rw [if_neg ‹_›]

/-! ### The tile (R130, R134, R139, R140) -/

/-- Every pixel of a tile after despeckle, and whether it was a speck. -/
def despeckledTile (t : Nat) (a : Array Nat) : List (Nat × Bool) :=
  (List.range 4096).map fun k => despeckled t a (k / 64) (k % 64)

theorem length_despeckledTile (t : Nat) (a : Array Nat) : (despeckledTile t a).length = 4096 := by
  rw [despeckledTile, List.length_map, List.length_range]

theorem getElem?_despeckledTile (t : Nat) (a : Array Nat) {k : Nat} (hk : k < 4096) :
    (despeckledTile t a)[k]? = some (despeckled t a (k / 64) (k % 64)) := by
  rw [despeckledTile, List.getElem?_map, List.getElem?_range hk, Option.map_some]

theorem countP_despeckledTile (t : Nat) (a : Array Nat) :
    (despeckledTile t a).countP (·.2)
      = ((List.range 4096).filter fun k => (despeckled t a (k / 64) (k % 64)).2).length := by
  rw [despeckledTile, List.countP_map, List.countP_eq_length_filter]
  rfl

/-- A value at offset k is the pixel in row k / 64 and column k % 64 (R130). -/
theorem pixelAt_offset (a : Array Nat) (k : Nat) : pixelAt a (k / 64) (k % 64) = a.getD k 0 := by
  rw [pixelAt, Nat.div_add_mod']

/-- A stretched pixel, and a position outside the tile, stand at no more than 255. -/
theorem pixelAt_stretched_le (px : List Nat) (b w r c : Nat) : pixelAt (px.map (stretch b w)).toArray r c ≤ 255 := by
  rw [pixelAt, Array.getD_eq_getD_getElem?, List.getElem?_toArray, List.getElem?_map]
  cases px[r * 64 + c]? with
  | none => exact Nat.zero_le _
  | some v => exact stretch_le b w v

/-- With no speck found in a tile stretched between 0 and 255, despeckle leaves its pixels (R140). -/
theorem despeckledTile_clean {t : Nat} {px : List Nat} (hlength : px.length = 4096) (hpx : ∀ x ∈ px, x ≤ 255)
    (hspecks : (despeckledTile t (px.map (stretch 0 255)).toArray).countP (·.2) = 0) :
    (despeckledTile t (px.map (stretch 0 255)).toArray).map (·.1) = px := by
  have hstretch : px.map (stretch 0 255) = px :=
    (List.map_congr_left fun x hx => stretch_full (hpx x hx)).trans (List.map_id' px)
  rw [hstretch] at hspecks ⊢
  refine List.ext_getElem? fun k => ?_
  obtain hk | hk := Nat.lt_or_ge k 4096
  · have hmem := List.mem_of_getElem? (getElem?_despeckledTile t px.toArray hk)
    have hkept := despeckled_fst (Bool.eq_false_iff.mpr (List.countP_eq_zero.mp hspecks _ hmem))
    rw [List.getElem?_map, getElem?_despeckledTile t _ hk, Option.map_some, hkept, pixelAt_offset]
    simp [hlength, hk]
  · rw [List.getElem?_eq_none (by rwa [List.length_map, length_despeckledTile]),
      List.getElem?_eq_none (by rwa [hlength])]

/-- A tile's black point under a profile (R133). -/
def blackPoint (p : Profile) (input : List Byte) : Nat := greyPoint (input.map (·.toNat)) (percentileCount p.pLo)

/-- A tile's white point under a profile (R133). -/
def whitePoint (p : Profile) (input : List Byte) : Nat := greyPoint (input.map (·.toNat)) (percentileCount p.pHi)

/-- A tile's pixels stretched between its points (R135). -/
def stretchedTile (p : Profile) (input : List Byte) : Array Nat :=
  ((input.map (·.toNat)).map (stretch (blackPoint p input) (whitePoint p input))).toArray

/-- A tile whose span is below S_min goes through the tone table alone (R134). -/
theorem computeTile_flat {p : Profile} {input : List Byte} (h : whitePoint p input - blackPoint p input < p.sMin) :
    computeTile p input = ⟨(input.map (·.toNat)).map (toneByte p), .flat, 0⟩ := if_pos h

/-- A tile that is not flat is stretched, despeckled and toned; it is clean when nothing moved (R135 to R140). -/
theorem computeTile_stretched {p : Profile} {input : List Byte} (h : p.sMin ≤ whitePoint p input - blackPoint p input) :
    computeTile p input = ⟨(despeckledTile p.threshold (stretchedTile p input)).map fun v => toneByte p v.1,
      if blackPoint p input = 0 ∧ whitePoint p input = 255
        ∧ (despeckledTile p.threshold (stretchedTile p input)).countP (·.2) = 0 then .clean else .repaired,
      (despeckledTile p.threshold (stretchedTile p input)).countP (·.2)⟩ := by
  have hafter : ∀ a, (tilePositions.map fun rc => despeckled p.threshold a rc.1 rc.2) = despeckledTile p.threshold a :=
    fun a => by rw [tilePositions, List.map_map]; rfl
  refine (if_neg (Nat.not_lt.mpr h)).trans ?_
  rw [hafter]
  rfl

theorem out_of_stretched {p : Profile} {input : List Byte} (h : p.sMin ≤ whitePoint p input - blackPoint p input) :
    (computeTile p input).out = (despeckledTile p.threshold (stretchedTile p input)).map fun v => toneByte p v.1 := by
  simp only [computeTile_stretched h]

theorem specks_of_stretched {p : Profile} {input : List Byte} (h : p.sMin ≤ whitePoint p input - blackPoint p input) :
    (computeTile p input).specks = (despeckledTile p.threshold (stretchedTile p input)).countP (·.2) := by
  simp only [computeTile_stretched h]

theorem kind_of_stretched {p : Profile} {input : List Byte} (h : p.sMin ≤ whitePoint p input - blackPoint p input) :
    (computeTile p input).kind = if blackPoint p input = 0 ∧ whitePoint p input = 255 ∧ (computeTile p input).specks = 0
      then .clean else .repaired := by
  simp only [computeTile_stretched h]

theorem clean_iff {p : Profile} {input : List Byte} (h : p.sMin ≤ whitePoint p input - blackPoint p input) :
    (computeTile p input).kind = .clean
      ↔ blackPoint p input = 0 ∧ whitePoint p input = 255 ∧ (computeTile p input).specks = 0 := by
  rw [kind_of_stretched h]
  split <;> simp [*]

theorem repaired_iff {p : Profile} {input : List Byte} (h : p.sMin ≤ whitePoint p input - blackPoint p input) :
    (computeTile p input).kind = .repaired
      ↔ blackPoint p input ≠ 0 ∨ whitePoint p input ≠ 255 ∨ 1 ≤ (computeTile p input).specks := by
  rw [Nat.one_le_iff_ne_zero, ← not_and_or, ← not_and_or, kind_of_stretched h]
  split <;> simp [*]

theorem getElem?_out {p : Profile} {input : List Byte} (h : p.sMin ≤ whitePoint p input - blackPoint p input)
    {k : Nat} (hk : k < 4096) : (computeTile p input).out[k]?
      = some (toneByte p (despeckled p.threshold (stretchedTile p input) (k / 64) (k % 64)).1) := by
  rw [out_of_stretched h, List.getElem?_map, getElem?_despeckledTile _ _ hk, Option.map_some]

theorem out_of_clean {p : Profile} {input : List Byte} (hlength : input.length = 4096)
    (hclean : (computeTile p input).kind = .clean) :
    (computeTile p input).out = (input.map (·.toNat)).map (toneByte p) := by
  obtain hflat | hspan := Nat.lt_or_ge (whitePoint p input - blackPoint p input) p.sMin
  · rw [computeTile_flat hflat]
  · obtain ⟨hb, hw, hspecks⟩ := (clean_iff hspan).mp hclean
    rw [specks_of_stretched hspan, stretchedTile, hb, hw] at hspecks
    rw [out_of_stretched hspan, stretchedTile, hb, hw]
    have hpx : ∀ x ∈ input.map (·.toNat), x ≤ 255 := fun x hx => by
      obtain ⟨y, -, rfl⟩ := List.mem_map.mp hx
      omega
    have hkept := despeckledTile_clean (t := p.threshold) ((List.length_map _).trans hlength) hpx hspecks
    conv_rhs => rw [← hkept, List.map_map, Function.comp_def]

theorem length_out (p : Profile) {input : List Byte} (hlength : input.length = 4096) :
    (computeTile p input).out.length = 4096 := by
  obtain hflat | hspan := Nat.lt_or_ge (whitePoint p input - blackPoint p input) p.sMin
  · rw [computeTile_flat hflat, List.length_map, List.length_map, hlength]
  · rw [out_of_stretched hspan, List.length_map, length_despeckledTile]

theorem specks_le (p : Profile) (input : List Byte) : (computeTile p input).specks ≤ 4096 := by
  obtain hflat | hspan := Nat.lt_or_ge (whitePoint p input - blackPoint p input) p.sMin
  · rw [computeTile_flat hflat]
    exact Nat.zero_le _
  · rw [specks_of_stretched hspan]
    exact List.countP_le_length.trans_eq (length_despeckledTile _ _)

/-- Under a threshold of 255 no tile has a speck (R137). -/
theorem specks_over {p : Profile} (input : List Byte) (h : 255 ≤ p.threshold) :
    (computeTile p input).specks = 0 := by
  obtain hflat | hspan := Nat.lt_or_ge (whitePoint p input - blackPoint p input) p.sMin
  · rw [computeTile_flat hflat]
  · rw [specks_of_stretched hspan, despeckledTile, List.countP_map, List.countP_eq_zero]
    intro k _
    rw [Function.comp_apply, despeckled_over (a := stretchedTile p input) (pixelAt_stretched_le _ _ _) h]
    exact Bool.false_ne_true

/-- Settles O46: the whole tile, then its points, the stretch, the neighbours, the specks and the median. -/
theorem tilesAreComputedByTheRules : Obligations.TilesAreComputedByTheRules := by
  refine ⟨fun p input hlength => ?tile, fun px lo hi hlength hpx hlo hmid hhi => ?points, fun b w v => ?stretch,
    fun r c hr hc => ⟨neighbours_nodup r c, mem_neighbours hr hc⟩,
    fun t a r c => ⟨despeckled_speck, despeckled_kept⟩,
    fun l a b c d hab hbc hcd => ⟨median_four hab hbc hcd, median_three hab hbc, median_two hab⟩⟩
  case tile =>
    exact ⟨computeTile_flat,
      fun hspan => ⟨clean_iff hspan, repaired_iff hspan, (specks_of_stretched hspan).trans (countP_despeckledTile _ _),
        fun k hk => getElem?_out hspan hk⟩,
      out_of_clean hlength, length_out p hlength, specks_le p input,
      specks_over input, stretch_le _ _, fun u v => stretch_mono _ _, fun v => stretch_full,
      fun near => median_between⟩
  case points =>
    obtain ⟨hone, hlt, hmax⟩ := percentileCount_bounds hlo hmid hhi
    obtain ⟨-, hblack, hbelow⟩ := greyPoint_least hpx (k := percentileCount lo) (by omega)
    obtain ⟨hgrey, hwhite, hunder⟩ := greyPoint_least hpx (k := percentileCount hi) (by omega)
    exact ⟨hone, hlt, hmax, hblack, hbelow, hwhite, hunder, greyPoint_mono hpx hlt.le (by omega), hgrey⟩
  case stretch =>
    refine ⟨stretch_black, stretch_white, fun hb hw => ?_⟩
    rw [stretch_between hb hw, Nat.mul_comm 510]
    exact ⟨rfl, rounded_bounds _ (by omega)⟩

end Sys2Proof.Machine.TileLaws
end

section
/-! Settlement: what an order's items come to, and the account, the holders and the counters it changes (R164, R174,
R177 to R179). -/

namespace Sys2Proof.Machine.OrderLaws
open Sys2Proof Sys2Proof.Machine

/-- What the fees of a list of sold items accrue to the holder numbered `k`; holder 0 accrues nothing (R178). -/
abbrev accruedTo (k : Nat) (sold : List ItemRec) : Nat :=
  ((sold.filter fun i => decide (i.snapshot.holder = k ∧ k ≠ 0)).map fun i =>
    i.snapshot.fee * i.snapshot.share / 100).sum

theorem accruedTo_cons (k : Nat) (i : ItemRec) (l : List ItemRec) :
    accruedTo k (i :: l) = (if i.snapshot.holder = k then i.snapshot.accrual else 0) + accruedTo k l := by
  by_cases hk : i.snapshot.holder = k
  · by_cases h0 : k = 0 <;> simp [accruedTo, hk, h0, Snapshot.accrual]
  · simp [accruedTo, hk]

/-- The fees divided one after another leave each holder with what is due to its number. -/
theorem foldl_accrueItem (sold : List ItemRec) (holders : List HolderRec) :
    sold.foldl accrueItem holders
      = holders.mapIdx fun k h => { h with accrued := h.accrued + accruedTo k sold } := by
  induction sold generalizing holders with
  | nil => simp [accruedTo, List.mapIdx_eq_ofFn]
  | cons i l ih =>
    rw [List.foldl_cons, ih]
    refine List.ext_getElem? fun k => ?_
    simp only [accrueItem, List.getElem?_mapIdx, List.getElem?_modify]
    cases holders[k]? with
    | none => rfl
    | some h => by_cases hk : i.snapshot.holder = k <;> simp [hk, accruedTo_cons, Nat.add_assoc]

theorem isPhoto_eq (p : Product) : p.isPhoto = decide (p = .photoPrint ∨ p = .photoFile) := by cases p <;> rfl

/-- The items whose fees are divided: the collected ones of the photo products (R178). -/
theorem sold_eq (items : List ItemRec) : (items.filter fun i => i.isCollected && i.product.isPhoto)
    = (items.filter fun i => decide (i.state = .collected)).filter fun i =>
        decide (i.product = .photoPrint ∨ i.product = .photoFile) := by
  rw [List.filter_filter]
  congr 1; funext i
  rw [isPhoto_eq, Bool.and_comm]; rfl

theorem collected_length (items : List ItemRec) :
    items.countP ItemRec.isCollected = (items.filter fun i => decide (i.state = .collected)).length :=
  List.countP_eq_length_filter

/-- Settles O50: the figures are those of the collected items, and the fees divided one by one add up by holder. -/
theorem settlementChargesTheAccount : Obligations.SettlementChargesTheAccount := by
  intro o s collected sold n charge rights accruals
  have hsold : (o.items.filter fun i => i.isCollected && i.product.isPhoto) = sold := sold_eq o.items
  have hcount : o.items.countP ItemRec.isCollected = collected.length := collected_length o.items
  simp only [settleOrder, OrderRec.settlement, hsold, hcount, foldl_accrueItem]
  rfl

end Sys2Proof.Machine.OrderLaws
end

section
/-! COLLECT, and the end of an item: its delivery, its collect expiry and its cancellation (R160 to R162, R164). -/

namespace Sys2Proof.Machine.OrderLaws
open Sys2Proof Sys2Proof.Machine Sys2Proof.Machine.CascadeLaws

/-! ### An item that is done -/

/-- The cancellation of a live item (R162). -/
theorem cancelItem_live {o i : Nat} {it : ItemRec} {s : State} (h : findItem s o i = some it) (hl : it.live = true)
    (reason : CancelReason) :
    cancelItem o i reason s =
      (settleIfDone o (raiseItemCancelled o i reason
        (modifyItem o i (ItemRec.finish (.cancelled reason)) (leaveTurn o i (giveUp o i it s)))),
      if isActive s o i then [.activate o] else []) := by
  simp [cancelItem, h, hl]

/-- An item that is not live is not cancelled again. -/
theorem cancelItem_done {o i : Nat} {s : State} (h : ∀ it, findItem s o i = some it → it.live = false)
    (reason : CancelReason) : cancelItem o i reason s = (s, []) := by
  unfold cancelItem
  split
  · rfl
  · next it hi => rw [if_pos (h it hi)]

/-! ### The end of a delivery and the collect expiry (R160, R161) -/

theorem itemDeliveryEnd_ends {s : State} {o i : Nat} {frames : List OutFrame} {x : ItemRec}
    (hout : s.outbound = .sending (.item o i) frames) (hx : findItem s o i = some x) :
    exec .itemDeliveryEnd s = .next (drain [] (settleIfDone o
      (modifyItem o i (ItemRec.finish .collected) (returnSlabs x.slabs (endStream frames s))))) := by
  have hfind : findItem (endStream frames s) o i = some x := hx
  change execItemDeliveryEnd s = _
  simp only [execItemDeliveryEnd, hout, collectItem, hfind]

theorem itemDeliveryEnd_other {s : State} (h : ∀ o i frames, s.outbound ≠ .sending (.item o i) frames) :
    exec .itemDeliveryEnd s = .next s := by
  change execItemDeliveryEnd s = _
  unfold execItemDeliveryEnd
  split
  · exact absurd ‹_› (h _ _ _)
  · rfl

theorem itemCollectExpiry_ready {s : State} {o i : Nat} {x : ItemRec} {start : Tick} (hx : findItem s o i = some x)
    (hstate : x.state = .ready (some start)) :
    exec (.itemCollectExpiry o i) s = .next (if due s itemSeconds start then
      drain (cancelItem o i .expired s).2 (cancelItem o i .expired s).1 else s) := by
  change execItemCollectExpiry o i s = _
  simp only [execItemCollectExpiry, hx, hstate]

/-- Settles O48: COLLECT by the item it finds, the end of a delivery, and the collect timer before it is due and then. -/
theorem collectDeliversReadyItems : Obligations.CollectDeliversReadyItems := by
  refine ⟨fun tag r s h => ends_request h ?_, fun s => ⟨fun o i frames x => itemDeliveryEnd_ends,
    itemDeliveryEnd_other, fun o i x start hx hstate => ?_⟩⟩
  · unfold collect
    refine ends_ensure (by simp) fun _ => ?_
    have hfind : findOrder (taken s) r.order = findOrder s r.order := rfl
    cases ho : findOrder s r.order with
    | none =>
      rw [show findItem s r.order r.item = none by simp [findItem, ho]]
      exact ends_missing (hfind.trans ho)
    | some x =>
      refine ends_found (hfind.trans ho) ?_
      rw [findItem_of_findOrder ho]
      cases hi : x.item r.item with
      | none => exact ends_missing rfl
      | some it =>
        refine ends_found rfl ?_
        dsimp only
        cases hstate : it.state <;> rfl
  · rw [itemCollectExpiry_ready hx hstate]
    by_cases h : (s.timeBase - start).toNat < 30000
    · rw [(due_false_iff s itemSeconds start).mpr h, if_pos h]
      rfl
    · rw [(due_iff s itemSeconds start).mpr (Nat.not_lt.mp h), if_neg h,
        cancelItem_live hx (by simp [ItemRec.live, hstate])]
      simp only [giveUp, hstate]
      rfl

end Sys2Proof.Machine.OrderLaws
end

section
/-! What an order's items come to while a step's work goes on: no stage changes it, and the order's last cancellation
settles it (R164, R174, R177). -/

namespace Sys2Proof.Machine.OrderLaws
open Sys2Proof Sys2Proof.Machine Sys2Proof.Machine.CascadeLaws

/-! ### An order's bill -/

/-- What an order is charged by: its record but for the turn list, with the COLLECTED items alone. -/
def bill (x : OrderRec) : OrderRec := { x with turn := [], items := x.items.filter ItemRec.isCollected }

/-- The bill of the order with a number, while it is in the book. -/
def billOf (s : State) (n : Nat) : Option OrderRec := (findOrder s n).map bill

theorem billOf_eq_none_iff {s : State} {n : Nat} : billOf s n = none ↔ findOrder s n = none := Option.map_eq_none_iff

theorem billOf_congr {s t : State} (h : t.orders = s.orders) : billOf t = billOf s := by
  funext n; unfold billOf findOrder; rw [h]

theorem fields_of_bill {x y : OrderRec} (h : bill y = bill x) :
    y.number = x.number ∧ y.account = x.account ∧ y.reservation = x.reservation := by
  simp only [bill, OrderRec.mk.injEq] at h
  tauto

/-- The charge is that of the bill (R174). -/
theorem chargeOf_bill (x : OrderRec) : chargeOf (bill x).items (bill x).discount = chargeOf x.items x.discount := by
  simp [chargeOf, bill, List.filter_filter]

theorem not_collected_of_live {it : ItemRec} (h : it.live = true) : it.isCollected = false := by
  cases hst : it.state <;> simp_all [ItemRec.live, ItemRec.isCollected]

/-- A member that the predicate does not hold of, changed into another such, leaves the filtered list as it is. -/
theorem filter_modify {α : Type} {p : α → Bool} {f : α → α} {l : List α} {k : Nat} {a : α} (h : l[k]? = some a)
    (ha : p a = false) (hf : p (f a) = false) : (l.modify k f).filter p = l.filter p := by
  induction l generalizing k with
  | nil => simp at h
  | cons b l ih =>
    cases k with
    | zero =>
      obtain rfl : b = a := by simpa using h
      simp [ha, hf]
    | succ k => simp [List.filter_cons, ih (by simpa using h)]

/-- An item that is not COLLECTED goes on to a state that is not COLLECTED. -/
theorem billOf_modifyItem {o i : Nat} {it : ItemRec} {f : ItemRec → ItemRec} {s : State}
    (h : findItem s o i = some it) (hit : it.isCollected = false) (hf : (f it).isCollected = false) :
    billOf (modifyItem o i f s) = billOf s := by
  obtain ⟨x, hx, hitem⟩ := Option.bind_eq_some_iff.mp h
  have hk : x.items[i - 1]? = some it := by simpa [OrderRec.item, ne_zero_of_findItem h] using hitem
  have hnumber : x.number = o := by simpa using List.find?_some hx
  funext n
  unfold billOf modifyItem
  rw [findOrder_modifyOrder o (f := fun x => { x with items := x.items.modify (i - 1) f }) fun _ => rfl]
  by_cases hn : n = o
  · subst hn
    simp [hx, hnumber, bill, filter_modify hk hit hf]
  · cases hy : findOrder s n with
    | none => rfl
    | some y =>
      have : y.number ≠ o := by
        have : y.number = n := by simpa using List.find?_some hy
        omega
      simp [this]

/-- A change of a turn list. -/
theorem billOf_modifyTurn (o : Nat) (f : OrderRec → List Nat) (s : State) :
    billOf (modifyOrder o (fun x => { x with turn := f x }) s) = billOf s := by
  funext n
  unfold billOf
  rw [findOrder_modifyOrder o (f := fun x => { x with turn := f x }) fun _ => rfl]
  cases findOrder s n with
  | none => rfl
  | some x => by_cases hx : x.number = o <;> simp [hx, bill]

/-- Items that are not COLLECTED go on one after another to a state that is not COLLECTED. -/
theorem billOf_modifyItems {α : Type} (key : α → Nat × Nat) {f : ItemRec → ItemRec}
    (hf : ∀ it, (f it).isCollected = false) {l : List α} {s : State}
    (h : ∀ x ∈ l, ∃ it, findItem s (key x).1 (key x).2 = some it ∧ it.isCollected = false) :
    billOf (l.foldl (fun s x => modifyItem (key x).1 (key x).2 f s) s) = billOf s := by
  induction l generalizing s with
  | nil => rfl
  | cons x l ih =>
    obtain ⟨it, hi, hit⟩ := h x (by simp)
    refine (ih fun y hy => ?_).trans (billOf_modifyItem hi hit (hf it))
    obtain ⟨z, hz, hzc⟩ := h y (by simp [hy])
    rw [findItem_modifyItem (ne_zero_of_findItem hi)]
    split
    · exact ⟨f z, by rw [hz]; rfl, hf z⟩
    · exact ⟨z, hz, hzc⟩

/-! ### No stage but a cancellation changes a bill -/

theorem billOf_detachItems {s : State} (h : ListsAgree s) {j : Job} (hj : j ∈ s.jobs) {t : State}
    (ht : t.orders = s.orders) : billOf (detachItems j.waiting t) = billOf s := by
  refine (billOf_modifyItems id (f := fun it => { it with state := .waitRestore none }) (fun _ => rfl)
    fun x hx => ?_).trans (billOf_congr ht)
  obtain ⟨it, hi⟩ := h.found (.inr ⟨j, hj, hx⟩)
  exact ⟨it, by rw [findItem_congr ht]; exact hi, not_collected_of_live (h.live (.inr ⟨j, hj, hx⟩) hi)⟩

theorem billOf_activateOrder {s : State} (h : ListsAgree s) {o : Nat} (hw : wanted s (.activate o) = true) :
    billOf (activateOrder o s).1 = billOf s := by
  obtain ⟨x, hx, hw⟩ := (Option.any_eq_true _ _).mp hw
  obtain ⟨i, hi, hw⟩ := (Option.any_eq_true _ _).mp hw
  obtain ⟨it, hit, hl, -⟩ := readyToWork_free h (Bool.and_eq_true _ _ ▸ hw).1
  have hxi : x.item i = some it := (findItem_of_findOrder hx).symm.trans hit
  obtain ⟨rest, hturn⟩ : ∃ rest, x.turn = i :: rest := List.head?_eq_some_iff.mp hi
  have hc := not_collected_of_live hl
  simp only [activateOrder, hx, hturn, hxi]
  split
  · exact (billOf_modifyTurn o _ _).trans (billOf_modifyItem hit hc rfl)
  · exact billOf_modifyItem hit hc (not_collected_of_live ((passEmbargo_keeps it).1.trans hl))

theorem billOf_askRestore {s : State} {o i : Nat} {it : ItemRec} (hi : findItem s o i = some it)
    (hc : it.isCollected = false) (r : PlateRef) (p : Nat) : billOf (askRestore o i r p s).1 = billOf s := by
  have waits : billOf (waitForJob o i s) = billOf s :=
    (billOf_congr rfl).trans (billOf_modifyItem (f := fun x => { x with state := .waitRestore none }) hi hc rfl)
  unfold askRestore
  split
  · split
    · exact (billOf_modifyItem hi hc rfl).trans (billOf_congr rfl)
    · exact waits
  · split
    · exact (billOf_modifyItem hi hc rfl).trans (billOf_congr rfl)
    · exact waits

theorem billOf_workActive {s : State} (h : ListsAgree s) {o i : Nat} (hw : readyToWork s o i = true) :
    billOf (workActive o i s).1 = billOf s := by
  obtain ⟨it, hi, hl, -⟩ := readyToWork_free h hw
  simp only [workActive, hi]
  split
  · split
    · rfl
    · exact billOf_askRestore hi (not_collected_of_live hl) _ _
  · rfl

theorem billOf_joinSlabWait {s : State} (h : ListsAgree s) {o i : Nat} (hw : readyToWork s o i = true) :
    billOf (joinSlabWait o i s).1 = billOf s := by
  obtain ⟨it, hi, hl, -⟩ := readyToWork_free h hw
  exact (billOf_congr rfl).trans
    (billOf_modifyItem (f := fun x => { x with state := .pending }) hi (not_collected_of_live hl) rfl)

theorem billOf_grantSlabs {s : State} (h : ListsAgree s) : billOf (grantSlabs s).1 = billOf s := by
  unfold grantSlabs
  split
  · rfl
  · next o i it src hh =>
    obtain ⟨rest, hs, hi, -⟩ := slabHead_found hh
    have hc := not_collected_of_live (h.live (.inl (hs ▸ List.mem_cons_self)) hi)
    exact (billOf_modifyItem (s := takeSlabs (slabsFor src.size) { s with slabWait := s.slabWait.tail }) hi hc
      rfl).trans (billOf_congr rfl)

theorem billOf_installCopy {s : State} (h : ListsAgree s) (n : Nat) : billOf (installCopy n s).1 = billOf s := by
  unfold installCopy
  split
  · rfl
  · next j hj =>
    split
    · next l p hl hp =>
      extract_lets t c u
      have ht : t.orders = s.orders := by unfold t; split <;> simp
      have hends : billOf u = billOf s := billOf_detachItems h (mem_of_findJob hj) (by simp [ht])
      exact (billOf_congr (by simp)).trans hends
    · rfl

theorem billOf_returnToTurn {s : State} {o : Nat} {l : List Nat} (hw : wanted s (.returnItems o l) = true) :
    billOf (returnToTurn o l s).1 = billOf s := by
  obtain ⟨-, hl⟩ : l.Nodup ∧ ∀ i ∈ l, ∃ it, findItem s o i = some it ∧ it.state = .waitEmbargo := by
    simpa [wanted, Option.any_eq_true] using hw
  have hfold := billOf_modifyItems (s := s) (fun i => (o, i))
    (f := fun it => { it with state := .pending, embargoPassed := true }) (fun _ => rfl) (l := l) fun i hi => by
      obtain ⟨it, hit, hst⟩ := hl i hi
      exact ⟨it, hit, by simp [ItemRec.isCollected, hst]⟩
  unfold returnToTurn
  split
  · rfl
  · dsimp only
    split <;> exact (billOf_modifyTurn o _ _).trans hfold

/-- A task by which no item can be cancelled leaves every bill and the accounts as they are. -/
theorem billOf_perform {s : State} (h : ListsAgree s) {t : Task} (ht : calm t = true) :
    billOf (perform t s).1 = billOf s ∧ (perform t s).1.accounts = s.accounts := by
  unfold perform
  split
  · next hw =>
    cases t with
    | cancel | failAtOnce | failJob => cases ht
    | activate o => exact ⟨billOf_activateOrder h hw, by simp [carryOut]⟩
    | workItem o i => exact ⟨billOf_workActive h hw, by simp [carryOut]⟩
    | goFetch o i => exact ⟨billOf_joinSlabWait h hw, by simp [carryOut]⟩
    | askSlabs => exact ⟨billOf_grantSlabs h, by simp [carryOut]⟩
    | install n => exact ⟨billOf_installCopy h n, by simp [carryOut]⟩
    | returnItems o l => exact ⟨billOf_returnToTurn hw, by simp [carryOut]⟩
    | examineWaiting | startRepair | claimPlace | rework =>
      exact ⟨billOf_congr (by simp [carryOut]), by simp [carryOut]⟩
  · exact ⟨rfl, rfl⟩

/-! ### The last cancellation settles the order (R162, R164) -/

/-- What a settlement leaves of the accounts: the order's charge and its reservation come off its account (R177). -/
abbrev chargedAccounts (x : OrderRec) (s : State) : List Account :=
  s.accounts.map fun a => if a.number = x.account then
    { a with balance := a.balance - chargeOf x.items x.discount, reserved := a.reserved - x.reservation } else a

/-- The order stands in the book with its bill and nothing charged, or it has left and its account is charged. -/
def BilledOnce (x : OrderRec) (s u : State) : Prop :=
  billOf u x.number = some (bill x) ∧ u.accounts = s.accounts
    ∨ billOf u x.number = none ∧ u.accounts = chargedAccounts x s

theorem BilledOnce.of_same {x : OrderRec} {s u t : State} (h : BilledOnce x s u) (hb : billOf t = billOf u)
    (ha : t.accounts = u.accounts) : BilledOnce x s t := by
  rwa [BilledOnce, hb, ha]

theorem settleOrder_accounts (x : OrderRec) (s : State) : (settleOrder x s).accounts = chargedAccounts x s := by
  simp [settleOrder, OrderRec.settlement]

/-- Orders of one bill are charged alike. -/
theorem chargedAccounts_congr {x y : OrderRec} (h : bill y = bill x) {s t : State} (ha : t.accounts = s.accounts) :
    chargedAccounts y t = chargedAccounts x s := by
  have hcharge : chargeOf y.items y.discount = chargeOf x.items x.discount := by
    rw [← chargeOf_bill, h, chargeOf_bill]
  obtain ⟨-, haccount, hreservation⟩ := fields_of_bill h
  simp only [chargedAccounts, ha, hcharge, haccount, hreservation]

theorem billedOnce_settleIfDone {x : OrderRec} {s u : State} (h : BilledOnce x s u) :
    BilledOnce x s (settleIfDone x.number u) := by
  unfold settleIfDone
  split
  · exact h
  · next y hy =>
    split
    · have hb : bill y = bill x ∧ u.accounts = s.accounts := by
        obtain ⟨hb, ha⟩ | ⟨hb, -⟩ := h
        · exact ⟨by simpa [billOf, hy] using hb, ha⟩
        · simp [billOf, hy] at hb
      obtain ⟨hnumber, -⟩ := fields_of_bill hb.1
      refine .inr ⟨billOf_eq_none_iff.mpr ?_, ?_⟩
      · rw [findOrder_settleOrder, if_pos hnumber.symm]
      · rw [settleOrder_accounts, chargedAccounts_congr hb.1 hb.2]
    · exact h

theorem billedOnce_cancelItem {x : OrderRec} {s u : State} (h : BilledOnce x s u) (i : Nat) (reason : CancelReason) :
    BilledOnce x s (cancelItem x.number i reason u).1 := by
  by_cases hl : ∃ it, findItem u x.number i = some it ∧ it.live = true
  · obtain ⟨it, hi, hl⟩ := hl
    rw [cancelItem_live hi hl]
    have hgive : findItem (leaveTurn x.number i (giveUp x.number i it u)) x.number i = some it := by
      rw [findItem_leaveTurn, findItem_congr (giveUp_orders ..), hi]
    refine billedOnce_settleIfDone (h.of_same ?_ (by simp))
    exact (billOf_congr (raiseItemCancelled_orders ..)).trans <|
      (billOf_modifyItem hgive (not_collected_of_live hl) rfl).trans <|
        (billOf_modifyTurn x.number _ _).trans (billOf_congr (giveUp_orders ..))
  · rw [cancelItem_done (fun it hi => by simpa using fun hlive => hl ⟨it, hi, hlive⟩)]
    exact h

end Sys2Proof.Machine.OrderLaws
end

section
/-! CANCEL-ORDER: its cancellations leave no order in the book with no live item, and charge the order once (R163, R164,
R174). -/

namespace Sys2Proof.Machine.OrderLaws
open Sys2Proof Sys2Proof.Machine Sys2Proof.Machine.CascadeLaws

/-! ### What tasks of one kind lead to -/

section
variable {P : State → Prop} {Q : Task → Prop}
  (hstep : ∀ t s, P s → Q t → P (perform t s).1 ∧ ∀ u ∈ (perform t s).2, Q u)
include hstep

/-- Tasks of a kind that gives only its own kind keep what each of the kind keeps. -/
theorem workOff_guided (n : Nat) (l : List Task) (w : Tally) (hw : P w.state) (hl : ∀ t ∈ l, Q t) :
    P (workOff n l w).state := by
  induction n generalizing l w with
  | zero => exact hw
  | succ n ih =>
    cases l with
    | nil => exact hw
    | cons t l =>
      obtain ⟨ht, hl⟩ := List.forall_mem_cons.mp hl
      obtain ⟨hp, hq⟩ := hstep t w.state hw ht
      exact ih _ _ hp (List.forall_mem_append.mpr ⟨hq, hl⟩)

theorem workTask_guided (n : Nat) (w : Tally) {t : Task} (hw : P w.state) (ht : Q t) : P (workTask n w t).state := by
  obtain ⟨hp, hq⟩ := hstep t w.state hw ht
  exact workOff_guided hstep n _ _ hp hq

theorem drainTasks_guided (n : Nat) (l : List Task) (w : Tally) (hw : P w.state) (hl : ∀ t ∈ l, Q t) :
    P (drainTasks n l w).state := by
  induction l generalizing w with
  | nil => exact hw
  | cons t l ih =>
    obtain ⟨ht, hl⟩ := List.forall_mem_cons.mp hl
    exact ih _ (workTask_guided hstep n w hw ht) hl

theorem followUps_guided (hnext : ∀ s t, followUp s = some t → Q t) (k n : Nat) (w : Tally) (hw : P w.state) :
    P (followUps k n w).state := by
  induction k generalizing w with
  | zero => exact hw
  | succ k ih =>
    unfold followUps
    split
    · exact hw
    · next t ht => exact ih _ (workTask_guided hstep n w hw (hnext _ t ht))

/-- All that a step's tasks lead to, where the tasks and the follow-ups are of one kind. -/
theorem drainTally_guided (hnext : ∀ s t, followUp s = some t → Q t) (l : List Task) (s : State) (hs : P s)
    (hl : ∀ t ∈ l, Q t) : P (drainTally l s).state :=
  followUps_guided hstep hnext _ _ _ (drainTasks_guided hstep _ l _ hs hl)

end

/-! ### An order's live items -/

/-- The places of an order's items that a test holds of, in list order. -/
def places (p : ItemRec → Bool) (x : OrderRec) : List Nat :=
  ((List.range x.items.length).map (· + 1)).filter fun i => (x.item i).any p

theorem liveItems_eq (x : OrderRec) : liveItems x = places ItemRec.live x := rfl

theorem mem_places {p : ItemRec → Bool} {x : OrderRec} {i : Nat} :
    i ∈ places p x ↔ ∃ it, x.item i = some it ∧ p it = true := by
  simp only [places, List.mem_filter, Option.any_eq_true, and_iff_right_iff_imp]
  rintro ⟨it, hi, -⟩
  cases i with
  | zero => cases hi
  | succ k => simpa using (List.getElem?_eq_some_iff.mp hi).1

theorem places_nodup (p : ItemRec → Bool) (x : OrderRec) : (places p x).Nodup :=
  (List.nodup_range.map fun _ _ he => Nat.succ.inj he).filter _

theorem places_length (p : ItemRec → Bool) (x : OrderRec) : (places p x).length = (x.items.filter p).length := by
  have hitems : (List.range x.items.length).map (fun k => x.items[k]?) = x.items.map some :=
    List.ext_getElem (by simp) fun k h _ => by simp at h; simp [h]
  have hplaces : ((fun i => (x.item i).any p) ∘ (· + 1)) = Option.any p ∘ fun k => x.items[k]? := rfl
  rw [places, ← List.countP_eq_length_filter, List.countP_map, hplaces, ← List.countP_map, hitems, List.countP_map,
    ← List.countP_eq_length_filter]
  rfl

theorem exists_item_of_mem {x : OrderRec} {it : ItemRec} (h : it ∈ x.items) : ∃ i, x.item i = some it := by
  obtain ⟨k, hk⟩ := List.getElem?_of_mem h
  exact ⟨k + 1, hk⟩

/-! ### An order in the book has a live item (R164) -/

/-- The order has left the book, or has an item that is live. -/
def OpenWhileLive (n : Nat) (s : State) : Prop :=
  findOrder s n = none ∨ ∃ i, (liveSubject s (n, i)).isSome = true

theorem findOrder_eq_none_iff {s : State} {n : Nat} : findOrder s n = none ↔ n ∉ s.orders.map (·.number) := by
  simp [findOrder]

theorem liveSubject_isSome {s : State} {n i : Nat} {x : OrderRec} {it : ItemRec} (hx : findOrder s n = some x)
    (hi : x.item i = some it) (hl : it.live = true) : (liveSubject s (n, i)).isSome = true := by
  simp [liveSubject, findItem, hx, hi, hl, Option.filter]

theorem openWhileLive_of_mem {s : State} {n : Nat} {x : OrderRec} {it : ItemRec} (hx : findOrder s n = some x)
    (hi : it ∈ x.items) (hl : it.live = true) : OpenWhileLive n s := by
  obtain ⟨i, hitem⟩ := exists_item_of_mem hi
  exact .inr ⟨i, liveSubject_isSome hx hitem hl⟩

/-- An order that is done is settled at once. -/
theorem openWhileLive_settleIfDone (n : Nat) (s : State) : OpenWhileLive n (settleIfDone n s) := by
  unfold settleIfDone
  split
  · next hx => exact .inl hx
  · next x hx =>
    have hn : x.number = n := by simpa using List.find?_some hx
    split
    · exact .inl (by rw [findOrder_settleOrder, if_pos hn.symm])
    · next hd =>
      obtain ⟨it, hi, hl⟩ : ∃ it ∈ x.items, it.live = true := by simpa [OrderRec.isDone] using hd
      exact openWhileLive_of_mem hx hi hl

theorem openWhileLive_cancelItem {n : Nat} {s : State} (h : OpenWhileLive n s) (o i : Nat) (reason : CancelReason) :
    OpenWhileLive n (cancelItem o i reason s).1 := by
  by_cases ho : o = n
  · subst ho
    obtain ⟨-, hs⟩ | ⟨it, t, -, hs, -⟩ := cancelItem_cases o i reason s
    · rw [hs]; exact h
    · rw [hs]; exact openWhileLive_settleIfDone o t
  · refine h.imp (fun hnone => ?_) fun ⟨k, hk⟩ => ⟨k, ?_⟩
    · rw [findOrder_eq_none_iff] at hnone ⊢
      exact fun hm => hnone ((numbers_cancelItem o i reason s).subset hm)
    · rwa [liveSubject_cancelItem, Function.update_of_ne (by simp [Ne.symm ho])]

/-- Every task keeps it so. -/
theorem openWhileLive_perform (n : Nat) (t : Task) {s : State} (hb : BookWf s) (h : OpenWhileLive n s) :
    OpenWhileLive n (perform t s).1 := by
  by_cases ht : ∃ o i reason, t = .cancel o i reason
  · obtain ⟨o, i, reason, rfl⟩ := ht
    exact openWhileLive_cancelItem h o i reason
  · have hg : GoesOn s (perform t s).1 := goesOn_perform hb.lists fun o i reason he => ht ⟨o, i, reason, he⟩
    rwa [OpenWhileLive, findOrder_eq_none_iff, hg.numbers, hg.live, ← findOrder_eq_none_iff]

/-! ### CANCEL-ORDER (R163) -/

/-- The cancellations that CANCEL-ORDER makes. -/
abbrev orderCancels (x : OrderRec) (n : Nat) : List Task := (liveItems x).map fun i => .cancel n i .orderCancelled

/-- Once its live items are cancelled the order has left the book. -/
theorem order_leaves {s : State} {n : Nat} {x : OrderRec} (h : BookWf s) (hx : findOrder s n = some x)
    (hlive : ∃ it ∈ x.items, it.live = true) : findOrder (drainTally (orderCancels x n) s).state n = none := by
  obtain ⟨it, hi, hl⟩ := hlive
  have hopen : OpenWhileLive n (drainTally (orderCancels x n) s).state :=
    (drainTally_induction (P := fun u => BookWf u ∧ OpenWhileLive n u)
      (fun t u ⟨hb, ho⟩ => ⟨bookWf_perform t hb, openWhileLive_perform n t hb ho⟩) _ s
      ⟨h, openWhileLive_of_mem hx hi hl⟩).2
  refine hopen.resolve_right fun ⟨i, hi⟩ => ?_
  have hbefore : (liveSubject s (n, i)).isSome = true := by
    obtain hnone | hsame := liveSubject_drainTally h (orderCancels x n) (n, i)
    · rw [hnone] at hi; cases hi
    · exact hsame ▸ hi
  obtain ⟨it, hit, hl⟩ : ∃ it, x.item i = some it ∧ it.live = true := by
    obtain ⟨y, hy⟩ := Option.isSome_iff_exists.mp hbefore
    obtain ⟨it, hit, hl, -⟩ := liveSubject_eq_some_iff.mp hy
    exact ⟨it, (findItem_of_findOrder hx).symm.trans hit, hl⟩
  have htask : .cancel n i .orderCancelled ∈ orderCancels x n :=
    List.mem_map.mpr ⟨i, mem_places.mpr ⟨it, hit, hl⟩, rfl⟩
  rw [drainTally_cancels h htask] at hi
  cases hi

theorem orderCancels_cancelled_le (x : OrderRec) (n : Nat) (s : State) :
    (drainTally (orderCancels x n) s).cancelled ≤ (x.items.filter ItemRec.live).length := by
  rw [← places_length, ← liveItems_eq, ← List.length_map (as := liveItems x) fun i => Task.cancel n i .orderCancelled]
  refine drainTally_cancelled_le (fun t ht => ?_) s
  obtain ⟨i, -, rfl⟩ := List.mem_map.mp ht
  exact ⟨_, _, _, rfl⟩

/-- Where every unit can be read, every live item is counted. -/
theorem orderCancels_cancelled_eq {s : State} {n : Nat} {x : OrderRec} (hread : AllReadable s) (h : BookWf s)
    (hx : findOrder s n = some x) :
    (drainTally (orderCancels x n) s).cancelled = (x.items.filter ItemRec.live).length := by
  have hcancels : orderCancels x n
      = ((liveItems x).map (Prod.mk n)).map fun y => .cancel y.1 y.2 .orderCancelled := by
    rw [List.map_map]; rfl
  rw [hcancels, drainTally_cancelled_eq hread h (reason := .orderCancelled) _ _ rfl, List.length_map, liveItems_eq,
    places_length]
  · exact (places_nodup _ x).map fun _ _ he => (Prod.mk.inj he).2
  · intro y hy
    obtain ⟨i, hi, rfl⟩ := List.mem_map.mp hy
    obtain ⟨it, hit, hl⟩ := mem_places.mp hi
    exact liveSubject_isSome hx hit hl

/-- What CANCEL-ORDER's cancellations keep while every unit can be read. -/
structure Settling (x : OrderRec) (s u : State) : Prop where
  readable : AllReadable u
  book : BookWf u
  billed : BilledOnce x s u

/-- The tasks that follow from CANCEL-ORDER: its own cancellations, and such as cancel nothing. -/
def ofCancelOrder (n : Nat) (t : Task) : Prop := calm t = true ∨ ∃ i, t = .cancel n i .orderCancelled

theorem settling_step (x : OrderRec) (s : State) (t : Task) (u : State) (h : Settling x s u)
    (ht : ofCancelOrder x.number t) :
    Settling x s (perform t u).1 ∧ ∀ v ∈ (perform t u).2, ofCancelOrder x.number v := by
  refine ⟨⟨allReadable_perform t h.readable, bookWf_perform t h.book, ?_⟩, fun v hv => .inl (calm_perform h.readable
    (ht.imp id fun ⟨i, he⟩ => ⟨_, i, _, he⟩) hv)⟩
  obtain hc | ⟨i, rfl⟩ := ht
  · obtain ⟨hb, ha⟩ := billOf_perform h.book.lists hc
    exact h.billed.of_same hb ha
  · exact billedOnce_cancelItem h.billed i _

/-- The account of a cancelled order has its charge and its reservation's release. -/
theorem orderCancels_accounts {s : State} {x : OrderRec} (hread : AllReadable s) (h : BookWf s)
    (hx : findOrder s x.number = some x) (hlive : ∃ it ∈ x.items, it.live = true) :
    (drainTally (orderCancels x x.number) s).state.accounts = chargedAccounts x s := by
  have hsettling : Settling x s (drainTally (orderCancels x x.number) s).state := by
    refine drainTally_guided (settling_step x s) (fun s t ht => .inl (calm_followUp ht)) _ s
      ⟨hread, h, .inl ⟨by simp [billOf, hx], rfl⟩⟩ fun t ht => ?_
    obtain ⟨i, -, rfl⟩ := List.mem_map.mp ht
    exact .inr ⟨i, rfl⟩
  obtain ⟨hb, -⟩ | ⟨-, ha⟩ := hsettling.billed
  · rw [billOf_eq_none_iff.mpr (order_leaves h hx hlive)] at hb
    cases hb
  · exact ha

theorem bookWf_taken {s : State} (h : WorkWf s) : BookWf (taken s) := by
  obtain ⟨-, -, -, -, -, -, -, hwaits, -, -, -, -, ⟨hnumbers, -⟩, -⟩ := h
  exact ⟨(goesOn_shrink (listsAgree_of_waitsWf hwaits) (by simp) (by simp) (.of_eq (by simp))).lists,
    by simpa using hnumbers⟩

theorem allReadable_taken {s : State} (h : AllReadable s) : AllReadable (taken s) :=
  allReadable_of_same h rfl rfl rfl (JobsShrink.of_eq rfl).stored

end Sys2Proof.Machine.OrderLaws
end

section
/-! The stages of an item one by one (R152 to R157, R162), and CANCEL-ORDER. -/

namespace Sys2Proof.Machine.OrderLaws
open Sys2Proof Sys2Proof.Machine Sys2Proof.Machine.CascadeLaws Sys2Proof.Machine.JobLaws

/-! ### An item leaves its job (R127, R162) -/

/-- The job without the item. -/
abbrev jobWithout (o i : Nat) (j : Job) : Job := { j with waiting := j.waiting.filter fun x => decide (x ≠ (o, i)) }

/-- A change of a job that then ends does not matter but for what the job's end reads. -/
theorem endJob_modifyJob {j k : Job} {f : Job → Job} (hf : ∀ y, (f y).number = y.number)
    (hk : (k.number, k.inputSlabs, k.outputSlabs) = (j.number, j.inputSlabs, j.outputSlabs)) (s : State) :
    endJob k (modifyJob j.number f s) = endJob j s := by
  obtain ⟨hnumber, hin, hout⟩ : k.number = j.number ∧ k.inputSlabs = j.inputSlabs ∧ k.outputSlabs = j.outputSlabs := by
    simpa using hk
  have hjobs : (s.jobs.map fun y => if y.number = j.number then f y else y).filter (fun y => decide (y.number ≠ j.number))
      = s.jobs.filter fun y => decide (y.number ≠ j.number) := by
    induction s.jobs with
    | nil => rfl
    | cons y l ih => by_cases hy : y.number = j.number <;> simp_all
  rw [endJob_eq, endJob_eq, hnumber, hin, hout, modifyJob_writes, hjobs]
  rfl

theorem findJob_modifyJob {n : Nat} {j : Job} {f : Job → Job} (hf : ∀ y, (f y).number = y.number) {s : State}
    (h : findJob s n = some j) : findJob (modifyJob n f s) n = some (f j) := by
  have hpred : ((fun y : Job => decide (y.number = n)) ∘ fun y => if y.number = n then f y else y)
      = fun y => decide (y.number = n) := by
    funext y; by_cases hy : y.number = n <;> simp [hy, hf]
  have hn : j.number = n := by simpa using List.find?_some h
  unfold findJob at h ⊢
  rw [modifyJob_writes, List.find?_map, hpred, h]
  simp [hn]

theorem leaveJob_found {o i n : Nat} {j : Job} {s : State} (h : findJob s n = some j) :
    leaveJob o i n s =
      if (jobWithout o i j).waiting = [] ∧ j.hostInterest = false ∧ j.state ≠ .committing then
        raiseJobFailed (jobWithout o i j) .orderCancelled 0 (endJob j s)
      else modifyJob n (jobWithout o i) s := by
  obtain rfl := TileLaws.number_of_findJob h
  have hfound := findJob_modifyJob (f := jobWithout o i) (fun _ => rfl) h
  have hends := endJob_modifyJob (j := j) (k := jobWithout o i j) (f := jobWithout o i) (fun _ => rfl) rfl s
  simp only [leaveJob, hfound, hends]

/-! ### The stages of an item -/

/-- The first member of an order's turn list becomes active when its stage is due (R153). -/
theorem perform_activate {o i : Nat} {x : OrderRec} {it : ItemRec} {s : State} (hx : findOrder s o = some x)
    (hturn : x.turn.head? = some i) (hi : x.item i = some it) (hst : it.state = .pending) (hw : (o, i) ∉ s.slabWait) :
    perform (.activate o) s =
      if embargoStops s it then (leaveTurn o i (setItemState o i .waitEmbargo s), [.activate o])
      else (modifyItem o i passEmbargo s, [.workItem o i]) := by
  have hwanted : wanted s (.activate o) = true := by
    simp [wanted, readyToWork, isActive, findItem, hx, hturn, hi, hst, hw]
  obtain ⟨rest, hcons⟩ : ∃ rest, x.turn = i :: rest := List.head?_eq_some_iff.mp hturn
  rw [perform_wanted hwanted]
  simp only [carryOut, activateOrder, hx, hcons, hi]

/-- What sets a photo item's mark and leaves a plate item as it is, is the passing of the test (R153). -/
theorem passEmbargo_eq {g : ItemRec → ItemRec} (hplate : ∀ y r, y.subject = .plate r → g y = y)
    (hphoto : ∀ y n, y.subject = .photo n → g y = { y with embargoPassed := true }) : passEmbargo = g := by
  funext y
  unfold passEmbargo
  split
  · next n hs => exact (hphoto y n hs).symm
  · next r hs => exact (hplate y r hs).symm

/-- A photo item is stopped by its photo's embargo day, until it has passed the test (R36, R153). -/
theorem embargoStops_iff {s : State} {it : ItemRec} {n : Nat} (h : it.subject = .photo n) :
    embargoStops s it = true ↔
      it.embargoPassed = false ∧ ∃ p, findPhoto s n = some p ∧ ∃ e, p.embargo = some e ∧ today s < e := by
  simp [embargoStops, h, Option.any_eq_true, Photo.embargoed]

theorem perform_workItem {o i : Nat} {s : State} (h : readyToWork s o i = true) :
    perform (.workItem o i) s = workActive o i s := perform_wanted h

/-- An item whose copy is there goes to fetch it (R153). -/
theorem workActive_fetches {o i : Nat} {it : ItemRec} {s : State} (hi : findItem s o i = some it)
    (h : ∀ r p, it.subject = .plate r → it.bound = .restored p → presentProfile s r = some p) :
    workActive o i s = (s, [.goFetch o i]) := by
  simp only [workActive, hi]
  split
  · next r p hs hb => rw [if_pos (h r p hs hb)]
  · rfl

/-- An item whose copy is to be made asks for it (R154). -/
theorem workActive_asks {o i : Nat} {it : ItemRec} {s : State} {r : PlateRef} {p : Nat} (hi : findItem s o i = some it)
    (hs : it.subject = .plate r) (hb : it.bound = .restored p) (hp : presentProfile s r ≠ some p) :
    workActive o i s = askRestore o i r p s := by
  simp only [workActive, hi, hs, hb, if_neg hp]

theorem joined_eq (p : Priority) : p.joined = if p = .routine then .order else p := by cases p <;> rfl

/-! ### Waiting for slabs (R156, R157) -/

theorem perform_askSlabs (s : State) : perform .askSlabs s = grantSlabs s := rfl

theorem slabHead_first {o i : Nat} {rest : List (Nat × Nat)} {it : ItemRec} {src : CopySource} {s : State}
    (hs : s.slabWait = (o, i) :: rest) (hi : findItem s o i = some it)
    (hc : copySource s it.subject it.bound.copy = some src) :
    slabHead s = if s.free < (src.size + 65535) / 65536 + 8192 then none else some (o, i, it, src) := by
  have hgrant : canGrant s (slabsFor src.size) = true ↔ ¬ s.free < (src.size + 65535) / 65536 + 8192 :=
    decide_eq_true_iff.trans Nat.not_lt.symm
  simp only [slabHead, hs, hi, hc, Option.bind_some, hgrant]
  by_cases hroom : s.free < (src.size + 65535) / 65536 + 8192 <;> simp [hroom]

theorem grantSlabs_none {s : State} (h : slabHead s = none) : grantSlabs s = (s, []) := by
  simp only [grantSlabs, h]

/-! ### CANCEL-ORDER -/

/-- CANCEL-ORDER of an order that it finds (R163). -/
theorem cancelOrder_found {tag n : Nat} {x : OrderRec} {s : State} (hx : findOrder s n = some x) :
    (Host.Outcome.next (answer tag (taken s) (cancelOrder n (taken s))) : Answered) =
      if n = 0 ∨ 255 < n then endsRefused tag .outOfRange s
      else endsDone tag [Wire.u16 (drainTally (orderCancels x n) (taken s)).cancelled,
          .u16 (x.items.countP fun i => decide (i.state = .collected)), .u32 (chargeOf x.items x.discount)]
        (drainTally (orderCancels x n) (taken s)).state := by
  have hfind : findOrder (taken s) n = some x := hx
  unfold cancelOrder
  exact ends_ensure (by simp) fun _ => ends_found hfind rfl

/-- Settles O49: the request by its checks, what its cancellations come to by what every task keeps, and the stages of an
item by what each finds. -/
theorem cancelOrderGivesUpTheItems : Obligations.CancelOrderGivesUpTheItems := by
  refine ⟨fun tag n s h => ends_request h ?request, fun tag n x s h _ hwork hpos hmax hx hlive => ?outcome,
    fun o i reason s => ⟨cancelItem_done (reason := reason), fun it hi hl => ?cancel⟩,
    fun o i n j s hj => ?leave, fun o x s hx => ?settle, fun o i x it s hx hturn hi hst hw => ?activate,
    fun o i it s hready hi => ⟨fun h => ?fetches, fun r p hs hb hp => ?asks, ?fetch⟩,
    fun s => ⟨fun h => ?noneWaits, fun o i rest it src hs hi hc => ?slabs, fun o i h => ?rework⟩⟩
  case request =>
    cases hx : findOrder s n with
    | some x => exact cancelOrder_found hx
    | none =>
      have hfind : findOrder (taken s) n = none := hx
      unfold cancelOrder
      exact ends_ensure (by simp) fun _ => ends_missing hfind
  case outcome =>
    obtain rfl : x.number = n := by simpa using List.find?_some hx
    have hbook := bookWf_taken hwork
    refine ⟨_, _, (ends_request h (cancelOrder_found hx)).trans (if_neg (by omega)), order_leaves hbook hx hlive,
      orderCancels_cancelled_le x _ _, fun hread => ?_⟩
    exact ⟨orderCancels_cancelled_eq (allReadable_taken hread) hbook hx,
      orderCancels_accounts (allReadable_taken hread) hbook hx hlive⟩
  case cancel =>
    rw [perform_cancel, cancelItem_live hi hl]
    unfold giveUp
    cases it.state with
    | waitRestore job => cases job <;> rfl
    | _ => rfl
  case leave =>
    rw [leaveJob_found hj, raiseJobFailed, TileLaws.number_of_findJob hj]
    rfl
  case settle =>
    have hdone : x.isDone = true ↔ ∀ it ∈ x.items, it.live = false := by simp [OrderRec.isDone]
    simp only [settleIfDone, hx, hdone]
  case activate =>
    rw [perform_activate hx hturn hi hst hw]
    refine ⟨fun r hs => ?_, fun n hs => ?_⟩
    · simp only [embargoStops, hs]
      exact congrArg (fun f => (modifyItem o i f s, [Task.workItem o i]))
        (passEmbargo_eq (fun y r h => by simp only [h]) fun y n h => by simp only [h])
    · simp only [embargoStops_iff hs]
      split
      · rfl
      · exact congrArg (fun f => (modifyItem o i f s, [Task.workItem o i]))
          (passEmbargo_eq (fun y r h => by simp only [h]) fun y n h => by simp only [h])
  case fetches => rw [perform_workItem hready, workActive_fetches hi h]
  case asks =>
    intro waits
    rw [perform_workItem hready, workActive_asks hi hs hb hp]
    unfold askRestore
    simp only [joined_eq]
    rfl
  case fetch => exact perform_wanted hready
  case noneWaits => rw [perform_askSlabs, grantSlabs_none (by simp [slabHead, h])]
  case slabs =>
    intro k
    have hhead := slabHead_first hs hi hc
    rw [perform_askSlabs]
    by_cases hroom : s.free < k + 8192
    · rw [if_pos hroom] at hhead ⊢
      exact grantSlabs_none hhead
    · rw [if_neg hroom] at hhead ⊢
      simp only [grantSlabs, hhead, failIfUnreadable_eq, hs, List.tail_cons]
      rfl
  case rework => exact perform_wanted (by simpa [wanted] using h)

end Sys2Proof.Machine.OrderLaws
end

section
/-! The reservation and the charge of an order's items (R172, R174, R176). -/

namespace Sys2Proof.Machine.PricingLaws
open Sys2Proof Sys2Proof.Machine

/-- With a discount of at most 250 per mille a greater non-rights total never makes a smaller price: the discount
rises by less than the total does (R174). -/
theorem price_mono {n m r q d : Nat} (hd : d ≤ 250) (hn : n ≤ m) (hr : r ≤ q) : price n r d ≤ price m q d := by
  obtain ⟨k, rfl⟩ := Nat.exists_eq_add_of_le hn
  have hrise : discountOn (n + k) d ≤ discountOn n d + k :=
    calc ((n + k) * d + 500) / 1000 ≤ (n * d + 500 + 1000 * k) / 1000 :=
          Nat.div_le_div_right (by nlinarith)
      _ = (n * d + 500) / 1000 + k := Nat.add_mul_div_left _ _ (by decide)
  unfold price
  omega

/-- With no non-rights total there is no discount, and the price is the licence fees. -/
theorem price_zero (r d : Nat) : price 0 r d = r := by simp [price, discountOn]

/-- An item that caused a repair only where one was to be made is charged no more restoration than was reserved (R172). -/
theorem chargedRestoration_le {i : ItemRec} (h : i.causedRepair = true → i.toBeMade = true) :
    i.chargedRestoration ≤ i.reservedRestoration := by
  unfold ItemRec.chargedRestoration ItemRec.reservedRestoration
  split
  · next hc => rw [if_pos (h hc)]; exact Nat.min_le_left _ _
  · exact Nat.zero_le _

/-- A sum over the collected items is at most the sum over all of them. -/
theorem sum_collected_le (f : ItemRec → Nat) (items : List ItemRec) :
    ((items.filter ItemRec.isCollected).map f).sum ≤ (items.map f).sum :=
  (List.filter_sublist.map f).sum_le_sum fun _ _ => Nat.zero_le _

/-- Settles O51: each part of the charge is at most that part of the reservation, and the price rises with both. -/
theorem chargeNeverExceedsReservation : Obligations.ChargeNeverExceedsReservation := by
  intro items d hd hmade
  refine ⟨?_, fun hnone => ?_, ?_⟩
  · have hown : ((items.filter ItemRec.isCollected).map fun i => i.ownPart i.chargedRestoration).sum
        ≤ (items.map fun i => i.ownPart i.reservedRestoration).sum :=
      calc _ ≤ ((items.filter ItemRec.isCollected).map fun i => i.ownPart i.reservedRestoration).sum :=
            List.sum_le_sum fun i hi =>
              Nat.add_le_add_left (chargedRestoration_le (hmade i (List.mem_of_mem_filter hi))) _
        _ ≤ _ := sum_collected_le _ items
    exact price_mono hd hown (sum_collected_le _ items)
  · have hempty : items.filter ItemRec.isCollected = [] := by simpa [ItemRec.isCollected] using hnone
    simp [chargeOf, hempty, price_zero]
  · calc _ = price 0 ((items.filter ItemRec.isCollected).map (·.snapshot.fee)).sum d := (price_zero _ d).symm
      _ ≤ chargeOf items d := price_mono hd (Nat.zero_le _) le_rfl

end Sys2Proof.Machine.PricingLaws
end

section
/-! The Tariff Unit's requests, lines, accounts and holders, and their reports (R168, R181 to R185, R187 to R189), with STATUS
(R206). -/

namespace Sys2Proof.Machine.AccountLaws
open Sys2Proof Sys2Proof.Machine

/-! ### The requests (R168, R181 to R184, R187, R188) -/

/-- SET-TARIFF of a product that there is (R168). -/
theorem setTariff_product {tag : Nat} {r : TariffReq} {s : State} (p : Product) (h : r.product = p.code) :
    (Host.Outcome.next (answer tag (taken s) (setTariff r (taken s))) : Answered) =
      let l := clampLine r.base r.ageRate r.tileRate r.cap
      endsDone tag [Wire.u8 r.product, .u32 l.base, .u8 l.ageRate, .u16 l.tileRate, .u32 l.cap]
        { taken s with tariff := s.tariff.setLine p l } := by
  unfold setTariff
  rw [h, PlaceOrderLaws.productOf_code]
  rfl

/-- The account state that a number stands for (R184). -/
theorem suspendedOf_eq (n : Nat) :
    suspendedOf n = if n ≠ 1 ∧ n ≠ 2 then none else some (decide (n = 2)) := by
  match n with
  | 0 | 1 | 2 => rfl
  | n + 3 => simp [suspendedOf]

/-- The number that stands for a state is the one it was read from (R184). -/
theorem accountStateCode_read {n : Nat} (h : ¬ (n ≠ 1 ∧ n ≠ 2)) : accountStateCode (decide (n = 2)) = n := by
  unfold accountStateCode
  split <;> simp_all

/-- A label that HOLDER-SET takes (R187). -/
theorem label_ok_iff (l : List Byte) : (decide (l.length = 16) && l.all printable) = true
    ↔ ¬ (l.length ≠ 16 ∨ ∃ x ∈ l, x.toNat < 0x20 ∨ 0x7E < x.toNat) := by
  simp [printable]

theorem findAccount_taken (s : State) (n : Nat) : findAccount (taken s) n = findAccount s n := rfl

/-- Settles O52: each request's checks in their order, then the one record it changes. -/
theorem tariffAndAccountRequests : Obligations.TariffAndAccountRequests := by
  refine ⟨fun tag r s h => ends_request h ?tariff,
    fun tag s => ⟨fun r h => ends_request h ?opens, fun r h => ends_request h ?credit,
      fun r h => ends_request h ?limit, fun r h => ends_request h ?state⟩,
    fun tag s => ⟨fun r h => ends_request h ?label, fun r hr h => ends_request h ?outOfTable,
      fun r x hx h => ends_request h ?pays⟩⟩
  case tariff =>
    dsimp only
    split_ifs with h1 h2 h3 h4
    · exact setTariff_product .pagePrint h1
    · exact setTariff_product .pageFile h2
    · exact setTariff_product .photoPrint h3
    · exact setTariff_product .photoFile h4
    · exact ends_missing (PlaceOrderLaws.productOf_none (by omega))
  case opens =>
    unfold openAccount
    refine ends_ensure_or (by simp) (by simp) fun _ => ?_
    exact ends_ensure (by simp [findAccount_taken]) fun _ => rfl
  case credit =>
    unfold creditAccount
    refine ends_ensure (by simp) fun _ => ?_
    rw [findAccount_taken]
    cases findAccount s r.account with
    | none => exact ends_missing rfl
    | some a =>
      refine ends_found rfl ?_
      simp only [← or_assoc]
      exact ends_ensure_or (by simp [balanceInRange]) (by simp [Account.available]) fun _ => rfl
  case limit =>
    unfold limitAccount
    refine ends_ensure (by simp) fun _ => ?_
    rw [findAccount_taken]
    cases findAccount s r.account with
    | none => exact ends_missing rfl
    | some a =>
      refine ends_found rfl (ends_ensure (by simp) fun _ => ?_)
      exact ends_ensure (by simp [Account.available]) fun _ => rfl
  case state =>
    unfold setAccountState
    refine ends_ensure (by simp) fun _ => ?_
    rw [suspendedOf_eq]
    by_cases hstate : r.state ≠ 1 ∧ r.state ≠ 2
    · rw [if_pos hstate, if_pos hstate]
      exact ends_missing rfl
    · rw [if_neg hstate, if_neg hstate]
      refine ends_found rfl ?_
      rw [accountStateCode_read hstate, findAccount_taken]
      cases findAccount s r.account with
      | none => exact ends_missing rfl
      | some a => exact ends_found rfl rfl
  case label =>
    unfold setHolder
    refine ends_ensure (by simp) fun _ => ?_
    exact ends_ensure (label_ok_iff r.label) fun _ => rfl
  case outOfTable => simp [payHolder, Nat.not_le.mpr hr]
  case pays =>
    unfold payHolder
    rw [ite_or]
    refine ends_ensure (by simp) fun _ => ends_found (a := x) hx ?_
    exact ends_ensure (by simp) fun _ => rfl

/-! ### The reports (R185, R189, R206) -/

/-- The held classes, as STATUS reports them (R79, R198). -/
theorem heldClasses_eq (s : State) :
    heldClasses s = .u8 ((if s.held2 then 4 else 0) + if s.held3 then 8 else 0) := by
  cases h2 : s.held2 <;> cases h3 : s.held3 <;> simp [heldClasses, memberBits, h2, h3]

/-- STATUS's fields, each as R206 names it. -/
theorem statusReport_eq (s : State) : statusReport s =
    [Wire.u8 (if s.part = .starting then 1 else 2), .u8 s.lastCause.code, .u8 (if s.supply = .normal then 1 else 2)]
      ++ dateWire s.date
      ++ [Wire.u32 s.timeBase.toNat, .u16 s.notices.length, .u8 (if s.queueFull then 1 else 0), .u16 s.queue.length,
        .u32 s.free, .u8 ((if s.held2 then 4 else 0) + if s.held3 then 8 else 0),
        .u8 (unitAt s 0).state.code, .u8 (unitAt s 1).state.code, .u8 (unitAt s 2).state.code,
        .u8 (unitAt s 3).state.code] := by
  have hpart : s.part.code = if s.part = .starting then 1 else 2 := by cases s.part <;> rfl
  have hsupply : s.supply.code = if s.supply = .normal then 1 else 2 := by cases s.supply <;> rfl
  rw [← hpart, ← hsupply, ← heldClasses_eq]
  simp only [statusReport, List.append_assoc]
  rfl

theorem statusReport_taken (s : State) : statusReport (taken s) = statusReport s := rfl

/-- STATUS that can be taken, whatever the part's state (R195, R206). -/
theorem execStatus_takes {r : Taken Unit} {s : State} (h : Takes (.status r) s) :
    execStatus r s =
      match r.body with
      | none => endsRefused r.tag .malformed s
      | some _ => endsDone r.tag (statusReport s) (taken s) := by
  unfold execStatus
  rw [takeRequest_takes h]
  cases r.body <;> rfl

/-- Settles O55: the reports by what each finds, on the part as it stands. -/
theorem accountReportsAndStatus : Obligations.AccountReportsAndStatus := by
  refine fun tag s => ⟨fun n h => ends_request h ?account,
    fun n h => ⟨fun hn => ends_request h ?outOfTable, fun x hx => ends_request h ?holder⟩,
    fun h => ends_request h ?revenue, fun h => (execStatus_takes h).trans ?status, fun h => execStatus_takes h⟩
  case account =>
    unfold accountInfo
    refine ends_ensure (by simp) fun _ => ?_
    rw [findAccount_taken]
    cases findAccount s n with
    | none => exact ends_missing rfl
    | some a =>
      simp only [List.map_eq_flatMap]
      exact ends_found rfl rfl
  case outOfTable => simp [revenueInfo, Nat.not_le.mpr hn]
  case holder =>
    unfold revenueInfo
    refine ends_ensure (by simp) fun _ => ?_
    exact ends_found (a := x) hx rfl
  case revenue =>
    simp only [revenueInfo, listOf, List.append_assoc]
    rfl
  case status =>
    rw [statusReport_eq]
    cases s.date <;> rfl

end Sys2Proof.Machine.AccountLaws
end

section
/-! The books of the Tariff Unit: what of State the revenue counters, the holders' sums and the accounts' reservations depend
on (R178 to R180, R186), and which operations leave it alone. -/

namespace Sys2Proof.Machine.LedgerLaws
open Sys2Proof Sys2Proof.Machine

/-! ### The books -/

/-- What an open order holds on to from its acceptance to its settlement: its number, account and reservation, and the
holders that its items' snapshots name (R145, R169). -/
structure Terms where
  number : Nat
  account : Nat
  reservation : Nat
  holders : List Nat

def terms (x : OrderRec) : Terms := ⟨x.number, x.account, x.reservation, x.items.map (·.snapshot.holder)⟩

/-- An account's number and what is reserved of it (R180). -/
def reserve (a : Account) : Nat × Nat := (a.number, a.reserved)

/-- What a holder has accrued and been paid (R186). -/
def sums (h : HolderRec) : Nat × Nat := (h.accrued, h.paid)

/-- Of the accounts their reserves, of the holders their sums, the revenue counters, of the orders their terms, and of the
photos the holders they name. -/
structure Books where
  accounts : List (Nat × Nat)
  holders : List (Nat × Nat)
  revenue : Revenue
  orders : List Terms
  photos : List Nat

def books (s : State) : Books :=
  ⟨s.accounts.map reserve, s.holders.map sums, s.revenue, s.orders.map terms, s.photos.map (·.holder)⟩

/-- The books of t are those of s. -/
@[simp] abbrev SameBooks (s t : State) : Prop :=
  t.accounts.map reserve = s.accounts.map reserve ∧ t.holders.map sums = s.holders.map sums ∧ t.revenue = s.revenue
    ∧ t.orders.map terms = s.orders.map terms ∧ t.photos.map (·.holder) = s.photos.map (·.holder)

theorem books_eq {s t : State} (h : SameBooks s t) : books t = books s := by
  obtain ⟨haccounts, hholders, hrevenue, horders, hphotos⟩ := h
  simp only [books, haccounts, hholders, hrevenue, horders, hphotos]

/-- Members that a map tells apart by what it leaves alone of them. -/
theorem map_map_eq {α β : Type} {f : α → β} {g : α → α} (h : ∀ a, f (g a) = f a) (l : List α) :
    (l.map g).map f = l.map f := by
  rw [List.map_map]
  exact List.map_congr_left fun a _ => h a

theorem SameBooks.trans {s t u : State} (h : SameBooks s t) (h' : SameBooks t u) : SameBooks s u := by
  simp_all

theorem foldl_sameBooks {α : Type} {f : State → α → State} (hf : ∀ s a, SameBooks s (f s a)) (l : List α) (s : State) :
    SameBooks s (l.foldl f s) := by
  induction l generalizing s with
  | nil => simp
  | cons a l ih => simpa [hf s a] using ih (f s a)

/-! ### Changes of one record -/

/-- A change of one member, told of what a map shows of it. -/
theorem map_modify {α β : Type} {f : α → β} {g : α → α} {g' : β → β} (h : ∀ a, f (g a) = g' (f a)) (l : List α) (k : Nat) :
    (l.modify k g).map f = (l.map f).modify k g' := by
  refine List.ext_getElem? fun n => ?_
  simp only [List.getElem?_map, List.getElem?_modify]
  cases l[n]? with
  | none => rfl
  | some a => by_cases hk : k = n <;> simp [hk, h]

/-- A change of an order that leaves its terms as they are. -/
theorem modifyOrder_terms (o : Nat) {f : OrderRec → OrderRec} (hf : ∀ x, terms (f x) = terms x) (s : State) :
    (modifyOrder o f s).orders.map terms = s.orders.map terms :=
  map_map_eq (fun x => by split <;> simp [hf]) _

/-- A change of an item that leaves its snapshot as it is. -/
@[simp] theorem modifyItem_terms (o i : Nat) {f : ItemRec → ItemRec} (hf : ∀ x, (f x).snapshot = x.snapshot)
    (s : State) : (modifyItem o i f s).orders.map terms = s.orders.map terms := by
  refine modifyOrder_terms o (f := fun x => { x with items := x.items.modify (i - 1) f }) (fun x => ?_) s
  have hholders := map_modify (f := fun i : ItemRec => i.snapshot.holder) (g := f) (g' := id)
    (fun y => by rw [hf]; rfl) x.items (i - 1)
  simp only [terms, hholders, List.modify_id]

@[simp] theorem leaveTurn_terms (o i : Nat) (s : State) :
    (leaveTurn o i s).orders.map terms = s.orders.map terms :=
  modifyOrder_terms o (f := fun x => { x with turn := x.turn.filter fun k => decide (k ≠ i) }) (fun _ => rfl) s

@[simp] theorem setItemState_terms (o i : Nat) (st : ItemState) (s : State) :
    (setItemState o i st s).orders.map terms = s.orders.map terms :=
  modifyItem_terms o i (f := fun x => { x with state := st }) (fun _ => rfl) s

/-- An item is done (R146). -/
@[simp] theorem finishItem_terms (o i : Nat) (st : ItemState) (s : State) :
    (modifyItem o i (ItemRec.finish st) s).orders.map terms = s.orders.map terms :=
  modifyItem_terms o i (f := ItemRec.finish st) (fun _ => rfl) s

@[simp] theorem passEmbargo_snapshot (it : ItemRec) : (passEmbargo it).snapshot = it.snapshot := by
  unfold passEmbargo
  split <;> rfl

/-- A change of an account that leaves its number and what is reserved of it as they are. -/
@[simp] theorem modifyAccount_sameBooks (n : Nat) {f : Account → Account} (hf : ∀ a, reserve (f a) = reserve a)
    (s : State) : SameBooks s (modifyAccount n f s) := by
  refine ⟨map_map_eq (fun a => by split <;> simp [hf]) _, ?_⟩
  simp

/-- A change of a photo that leaves the holder it names as it is. -/
theorem modifyPhoto_photos (n : Nat) {f : Photo → Photo} (hf : ∀ p, (f p).holder = p.holder) (s : State) :
    (modifyPhoto n f s).photos.map (·.holder) = s.photos.map (·.holder) :=
  map_map_eq (fun p => by split <;> simp [hf]) _

@[simp] theorem setContent_photos (x : Subject) (st : ContentState) (s : State) :
    (setContent x st s).photos.map (·.holder) = s.photos.map (·.holder) := by
  cases x with
  | plate r => simp [setContent]
  | photo n => exact modifyPhoto_photos n (f := fun p => { p with state := st }) (fun _ => rfl) s

@[simp] theorem setStored_photos (x : Subject) (l : Location) (s : State) :
    (setStored x l s).photos.map (·.holder) = s.photos.map (·.holder) := by
  cases x with
  | plate r => simp [setStored]
  | photo n => exact modifyPhoto_photos n (f := fun p => { p with state := .stored, location := some l }) (fun _ => rfl) s

@[simp] theorem raiseFaults_photos (x : Subject) (s : State) :
    (raiseFaults x s).photos.map (·.holder) = s.photos.map (·.holder) := by
  cases x with
  | plate r => simp [raiseFaults]
  | photo n =>
    exact modifyPhoto_photos n (f := fun p => { p with readFaults := min 255 (p.readFaults + 1) }) (fun _ => rfl) s

@[simp] theorem addUses_photos (l : List Nat) (s : State) :
    (addUses l s).photos.map (·.holder) = s.photos.map (·.holder) :=
  map_map_eq (fun p => by split <;> rfl) _

@[simp] theorem dropUses_photos (l : List Nat) (s : State) :
    (dropUses l s).photos.map (·.holder) = s.photos.map (·.holder) :=
  map_map_eq (fun p => by split <;> rfl) _

@[simp] theorem removePlate_photos (r : PlateRef) (p : Plate) (s : State) :
    (removePlate r p s).photos.map (·.holder) = s.photos.map (·.holder) := by
  simp [removePlate]

/-! ### The stages of items and jobs that settle nothing (R119 to R125, R153 to R159) -/

@[simp] theorem detachItems_terms (l : List (Nat × Nat)) (s : State) :
    (detachItems l s).orders.map terms = s.orders.map terms := by
  induction l generalizing s with
  | nil => rfl
  | cons x l ih => exact (ih _).trans (setItemState_terms ..)

@[simp] theorem activateOrder_sameBooks (o : Nat) (s : State) : SameBooks s (activateOrder o s).1 := by
  unfold activateOrder
  (repeat' split) <;> simp

@[simp] theorem waitForJob_terms (o i : Nat) (s : State) :
    (waitForJob o i s).orders.map terms = s.orders.map terms := setItemState_terms ..

@[simp] theorem workActive_sameBooks (o i : Nat) (s : State) : SameBooks s (workActive o i s).1 := by
  unfold workActive askRestore
  (repeat' split) <;> simp [addJob]

@[simp] theorem joinSlabWait_sameBooks (o i : Nat) (s : State) : SameBooks s (joinSlabWait o i s).1 := by
  simp [joinSlabWait]

@[simp] theorem grantSlabs_sameBooks (s : State) : SameBooks s (grantSlabs s).1 := by
  unfold grantSlabs
  split <;> simp

@[simp] theorem failJobNow_sameBooks (n : Nat) (why : JobEnd) (reason : CancelReason) (s : State) :
    SameBooks s (failJobNow n why reason s).1 := by
  unfold failJobNow
  split <;> simp

@[simp] theorem installCopy_sameBooks (n : Nat) (s : State) : SameBooks s (installCopy n s).1 := by
  unfold installCopy
  dsimp only
  (repeat' split) <;> simp

/-- A change of a turn list. -/
theorem modifyTurn_sameBooks (o : Nat) (f : OrderRec → List Nat) (s : State) :
    SameBooks s (modifyOrder o (fun x => { x with turn := f x }) s) := by
  have horders := modifyOrder_terms o (f := fun x => { x with turn := f x }) (fun _ => rfl) s
  exact ⟨by simp, by simp, by simp, horders, by simp⟩

@[simp] theorem returnToTurn_sameBooks (o : Nat) (l : List Nat) (s : State) : SameBooks s (returnToTurn o l s).1 := by
  have hitems := foldl_sameBooks
    (f := fun s i => modifyItem o i (fun it => { it with state := .pending, embargoPassed := true }) s)
    (fun s i => by simp) l s
  unfold returnToTurn
  dsimp only
  (repeat' split)
  · simp
  · exact hitems.trans (modifyTurn_sameBooks o _ _)
  · exact hitems.trans (modifyTurn_sameBooks o _ _)

/-- A task that cancels nothing leaves the books as they are. -/
theorem perform_sameBooks {t : Task} (ht : ∀ o i reason, t ≠ .cancel o i reason) (s : State) :
    SameBooks s (perform t s).1 := by
  unfold perform
  split
  · cases t with
    | cancel o i reason => exact absurd rfl (ht o i reason)
    | _ => simp [carryOut]
  · simp

end Sys2Proof.Machine.LedgerLaws
end

section
/-! How the books move: by settlements, accepted orders, new accounts, payouts, photo rights and resets, and by nothing else
(R31, R35, R151, R177 to R181, R188, R216). -/

namespace Sys2Proof.Machine.LedgerLaws
open Sys2Proof Sys2Proof.Machine

/-! ### The moves -/

/-- The fee of a collected item divided: its holder's accrued rises (R178). -/
def accrue (l : List (Nat × Nat)) (i : ItemRec) : List (Nat × Nat) :=
  l.modify i.snapshot.holder fun h => (h.1 + i.snapshot.accrual, h.2)

/-- One move of the books. -/
inductive Move : Books → Books → Prop
  /-- An order of the book is settled: its reservation is released, the fees of its sold items are divided, the counters
  rise, and it leaves the book (R177 to R179). -/
  | settle {b : Books} {x : Terms} {sold : List ItemRec} (hx : x ∈ b.orders)
      (hsold : ∀ i ∈ sold, i.snapshot.holder ∈ x.holders) (charge : Nat) :
      Move b { b with
        accounts := b.accounts.map fun a => if a.1 = x.account then (a.1, a.2 - x.reservation) else a
        holders := sold.foldl accrue b.holders
        revenue := b.revenue.settle charge (sold.map (·.snapshot.fee)).sum (sold.map (·.snapshot.accrual)).sum
        orders := b.orders.filter fun y => decide (y.number ≠ x.number) }
  /-- An order is accepted under a number not in use: its reservation is made, and its snapshots name holder 0 or the holder
  of a photo (R151, R169). -/
  | accept {b : Books} {x : Terms} (hnumber : x.number ∉ b.orders.map (·.number)) (hroom : b.orders.length < 32)
      (haccount : x.account ∈ b.accounts.map (·.1)) (hholders : ∀ h ∈ x.holders, h = 0 ∨ h ∈ b.photos) :
      Move b { b with
        accounts := b.accounts.map fun a => if a.1 = x.account then (a.1, a.2 + x.reservation) else a
        orders := b.orders ++ [x] }
  /-- An account is opened under a number not in use, nothing reserved of it (R181). -/
  | openAccount {b : Books} {n : Nat} (hn : n ∉ b.accounts.map (·.1)) :
      Move b { b with accounts := b.accounts ++ [(n, 0)] }
  /-- A holder is paid, up to what it has accrued (R188). -/
  | pay {b : Books} {k amount : Nat} (h : ∀ p, b.holders[k]? = some p → p.2 + amount ≤ p.1) :
      Move b { b with holders := b.holders.modify k fun p => (p.1, p.2 + amount) }
  /-- Photos leave, or name another holder of the table (R31, R32, R35, R39). -/
  | photos {b : Books} {l : List Nat} (h : ∀ k ∈ l, k ≤ 63 ∨ k ∈ b.photos) : Move b { b with photos := l }
  /-- A reset discards the open orders and releases what is reserved for them (R180, R216). -/
  | discard {b : Books} : Move b { b with accounts := b.accounts.map fun a => (a.1, 0), orders := [] }

/-- From s to t the books go by moves. -/
def Moves (s t : State) : Prop := Relation.ReflTransGen Move (books s) (books t)

theorem Moves.trans {s t u : State} (h : Moves s t) (h' : Moves t u) : Moves s u := Relation.ReflTransGen.trans h h'

theorem moves_of_same {s t : State} (h : SameBooks s t) : Moves s t := by
  unfold Moves
  rw [books_eq h]

theorem moves_refl (s : State) : Moves s s := .refl

theorem moves_of_move {s t : State} {b : Books} (h : Move (books s) b) (ht : books t = b) : Moves s t :=
  .single (ht ▸ h)

/-! ### Settlement (R164, R177) -/

theorem foldl_accrueItem_sums (sold : List ItemRec) (l : List HolderRec) :
    (sold.foldl accrueItem l).map sums = sold.foldl accrue (l.map sums) := by
  induction sold generalizing l with
  | nil => rfl
  | cons i sold ih =>
    rw [List.foldl_cons, ih, List.foldl_cons]
    congr 1
    exact map_modify (f := sums) (g := fun h => { h with accrued := h.accrued + i.snapshot.accrual })
      (g' := fun h => (h.1 + i.snapshot.accrual, h.2)) (fun _ => rfl) l i.snapshot.holder

/-- A change of accounts by number, told of their reserves. -/
theorem map_reserve (n : Nat) {f : Account → Account} {g : Nat → Nat} (hf : ∀ a, reserve (f a) = (a.number, g a.reserved))
    (l : List Account) :
    (l.map fun a => if a.number = n then f a else a).map reserve
      = (l.map reserve).map fun a => if a.1 = n then (a.1, g a.2) else a := by
  rw [List.map_map, List.map_map]
  refine List.map_congr_left fun a _ => ?_
  by_cases ha : a.number = n
  · simpa [ha, reserve] using hf a
  · simp [ha, reserve]

theorem filter_terms (n : Nat) (l : List OrderRec) :
    (l.filter fun y => decide (y.number ≠ n)).map terms = (l.map terms).filter fun y => decide (y.number ≠ n) := by
  rw [List.filter_map]
  rfl

theorem moves_settleOrder {x : OrderRec} {s : State} (hx : x ∈ s.orders) : Moves s (settleOrder x s) := by
  refine moves_of_move (.settle (x := terms x) (sold := x.items.filter fun i => i.isCollected && i.product.isPhoto)
    (List.mem_map_of_mem hx) (fun i hi => List.mem_map.mpr ⟨i, List.mem_of_mem_filter hi, rfl⟩)
    x.settlement.charge) ?_
  have haccounts := map_reserve x.account (l := s.accounts)
    (f := fun a => { a with balance := a.balance - x.settlement.charge, reserved := a.reserved - x.reservation })
    (g := fun n => n - x.reservation) fun _ => rfl
  simp only [settleOrder, books, raise_keeps, modifyAccount_keeps, modifyAccount_writes, haccounts,
    foldl_accrueItem_sums, filter_terms]
  rfl

theorem moves_settleIfDone (o : Nat) (s : State) : Moves s (settleIfDone o s) := by
  unfold settleIfDone
  split
  · exact moves_refl s
  · next x hx =>
    split
    · exact moves_settleOrder (List.mem_of_find?_eq_some hx)
    · exact moves_refl s

theorem moves_cancelItem (o i : Nat) (reason : CancelReason) (s : State) : Moves s (cancelItem o i reason s).1 := by
  unfold cancelItem
  split
  · exact moves_refl s
  · split
    · exact moves_refl s
    · exact (moves_of_same (by simp)).trans (moves_settleIfDone o _)

/-! ### All that a step's tasks lead to -/

theorem moves_perform (t : Task) (s : State) : Moves s (perform t s).1 := by
  by_cases ht : ∃ o i reason, t = .cancel o i reason
  · obtain ⟨o, i, reason, rfl⟩ := ht
    exact moves_cancelItem o i reason s
  · exact moves_of_same (perform_sameBooks (fun o i reason he => ht ⟨o, i, reason, he⟩) s)

theorem Moves.drainTally {s t : State} (h : Moves s t) (l : List Task) : Moves s (drainTally l t).state :=
  drainTally_induction (P := Moves s) (fun t u hu => hu.trans (moves_perform t u)) l t h

theorem Moves.drain {s t : State} (h : Moves s t) (l : List Task) : Moves s (drain l t) := h.drainTally l

theorem moves_drain {s t : State} (h : SameBooks s t) (l : List Task) : Moves s (drain l t) :=
  (moves_of_same h).drain l

end Sys2Proof.Machine.LedgerLaws
end

section
/-! What the operations and the commands do to the books: most leave them alone, and the rest move them (R177 to R181). -/

namespace Sys2Proof.Machine.LedgerLaws
open Sys2Proof Sys2Proof.Machine Sys2Proof.Machine.SlotLaws

/-! ### Operations that leave the books alone -/

@[simp] theorem freeTicketsOn_sameBooks (x : Subject) (s : State) : SameBooks s (freeTicketsOn x s) :=
  foldl_sameBooks (fun s t => by simp) _ s

@[simp] theorem suppressJob_sameBooks (r : PlateRef) (s : State) : SameBooks s (suppressJob r s) := by
  unfold suppressJob
  split <;> simp

@[simp] theorem withdrawFromService_sameBooks (r : PlateRef) (s : State) :
    SameBooks s (withdrawFromService r s) := by
  unfold withdrawFromService
  dsimp only
  split <;> simp

@[simp] theorem giveBackPhoto_sameBooks (p : Photo) (s : State) : SameBooks s (giveBackPhoto p s) := by
  unfold giveBackPhoto
  (repeat' split) <;> simp

@[simp] theorem queueSlot_sameBooks (k : Nat) (x : Slot) (s : State) : SameBooks s (queueSlot k x s) := by
  simp [queueSlot]

@[simp] theorem stallRecord_sameBooks (k : Nat) (x : Slot) (s : State) : SameBooks s (stallRecord k x s).1 := by
  unfold stallRecord
  (repeat' split) <;> simp

@[simp] theorem setEditionState_sameBooks (d i : Nat) (st : EditionState) (s : State) :
    SameBooks s (setEditionState d i st s) := by simp [setEditionState]

@[simp] theorem closeNow_sameBooks (e : Edition) (s : State) : SameBooks s (closeNow e s) := by simp [closeNow]

@[simp] theorem setEntryContent_sameBooks (x : EntrySubject) (st : ContentState) (s : State) :
    SameBooks s (setEntryContent x st s) := by
  unfold setEntryContent
  split <;> simp

@[simp] theorem endOperation_sameBooks (u : Nat) (s : State) : SameBooks s (endOperation u s) := by
  simp [endOperation]

@[simp] theorem clearFailures_sameBooks (u : Nat) (s : State) : SameBooks s (clearFailures u s) := by
  simp [clearFailures]

@[simp] theorem countFailure_sameBooks (u kind cause : Nat) (s : State) :
    SameBooks s (countFailure u kind cause s) := by
  unfold countFailure countFree
  dsimp only
  (repeat' split) <;> simp

@[simp] theorem storeSubject_sameBooks (x : EntrySubject) (l : Location) (s : State) :
    SameBooks s (storeSubject x l s) := by
  cases x <;> simp [storeSubject]

@[simp] theorem raiseStored_sameBooks (x : EntrySubject) (u n : Nat) (s : State) :
    SameBooks s (raiseStored x u n s) := by
  unfold raiseStored
  split <;> simp

@[simp] theorem raiseFailed_sameBooks (x : EntrySubject) (l : List Nat) (c : Nat) (s : State) :
    SameBooks s (raiseFailed x l c s) := by
  unfold raiseFailed
  split <;> simp

@[simp] theorem closeIfStored_sameBooks (x : EntrySubject) (s : State) : SameBooks s (closeIfStored x s) := by
  unfold closeIfStored
  (repeat' split) <;> simp

@[simp] theorem closeFailedBy_sameBooks (x : EntrySubject) (s : State) : SameBooks s (closeFailedBy x s) := by
  unfold closeFailedBy
  (repeat' split) <;> simp

@[simp] theorem beginAttempt_sameBooks (u : Nat) (e : Entry) (s : State) : SameBooks s (beginAttempt u e s) := by
  simp [beginAttempt]

@[simp] theorem sendRead_sameBooks (u : Nat) (r : Read) (n : Nat) (s : State) : SameBooks s (sendRead u r n s) := by
  simp [sendRead]

@[simp] theorem markReading_sameBooks (o : Owner) (s : State) : SameBooks s (markReading o s) := by
  cases o <;> simp [markReading]

@[simp] theorem orphanEnded_sameBooks (u : Nat) (ok : Bool) (s : State) : SameBooks s (orphanEnded u ok s) := by
  cases ok <;> simp [orphanEnded]

@[simp] theorem writeTile_sameBooks (j : Job) (n : Nat) (s : State) : SameBooks s (writeTile j n s) := by
  simp [writeTile]

@[simp] theorem endStream_sameBooks (l : List OutFrame) (s : State) : SameBooks s (endStream l s) := by
  simp [endStream]

@[simp] theorem advanceBase_sameBooks (s : State) : SameBooks s (advanceBase s) := by
  unfold advanceBase
  dsimp only
  split <;> simp

@[simp] theorem receiveData_sameBooks (tag : Nat) (body : List Byte) (s : State) :
    SameBooks s (receiveData tag body s) := by
  unfold receiveData fillSlot
  (repeat' split) <;> simp

@[simp] theorem handOn_sameBooks (kind tag code : Nat) (body : List Byte) (s : State) :
    SameBooks s (handOn kind tag code body s) := by
  unfold handOn
  (repeat' split) <;> simp

@[simp] theorem receiveByte_sameBooks (s : State) (x : Byte) : SameBooks s (receiveByte s x) := by
  unfold receiveByte readingByte frameWhole
  dsimp only
  (repeat' split) <;> simp

@[simp] theorem receive_sameBooks (b : List Byte) (s : State) : SameBooks s (receive b s) :=
  foldl_sameBooks receiveByte_sameBooks b s

/-- A change of a photo that leaves the holder it names as it is. -/
theorem modifyPhoto_sameBooks (n : Nat) {f : Photo → Photo} (hf : ∀ p, (f p).holder = p.holder) (s : State) :
    SameBooks s (modifyPhoto n f s) :=
  ⟨by simp, by simp, by simp, by simp, modifyPhoto_photos n hf s⟩

/-! ### Start-up and the resets (R216 to R220) -/

theorem recover_holder (p : Photo) : p.recover.holder = p.holder := by
  unfold Photo.recover
  split <;> rfl

@[simp] theorem recoveryPass_sameBooks (s : State) : SameBooks s (recoveryPass s) :=
  ⟨rfl, rfl, rfl, rfl, map_map_eq recover_holder _⟩

@[simp] theorem startIfFree_sameBooks (s : State) : SameBooks s (startIfFree s) := by
  unfold startIfFree
  split <;> simp [startUp]

@[simp] theorem raiseStarted_sameBooks (s : State) : SameBooks s (raiseStarted s) := by simp [raiseStarted]

@[simp] theorem settleUnit_sameBooks (u : Nat) (x : UnitRec) (s : State) : SameBooks s (settleUnit u x s) := by
  unfold settleUnit readyIfSettled
  split <;> simp

theorem undoWrite_sameBooks (s : State) (w : PassWrite) : SameBooks s (undoWrite w s) := by
  cases w with
  | close d i target => simp [undoWrite]
  | content x was l =>
    cases x with
    | plate r => simp [undoWrite]
    | photo n => exact modifyPhoto_sameBooks n (fun p => by split <;> rfl) s

theorem cutPass_sameBooks (s : State) : SameBooks s (cutPass s) := by
  unfold cutPass
  split
  · simp
  · simpa using foldl_sameBooks undoWrite_sameBooks (unwritten s) s

/-- The volatile work discarded takes the open orders with it, and what is reserved for them (R180, R216). -/
theorem moves_discardVolatile (s : State) : Moves s (discardVolatile s) := by
  refine moves_of_move .discard ?_
  simp only [books, discardVolatile, List.map_map]
  rfl

theorem moves_hardReset (cause : ResetCause) (s : State) : Moves s (hardReset cause s) :=
  (moves_of_same (cutPass_sameBooks s)).trans ((moves_discardVolatile _).trans (moves_of_same (by simp [hardReset])))

theorem moves_linkTakesEffect (s : State) : Moves s (linkTakesEffect s) :=
  (moves_of_same (t := abortBusy s) (by simp [abortBusy])).trans
    ((moves_discardVolatile _).trans (moves_of_same (by simp [linkTakesEffect, relinkUnits])))

/-! ### Operations with a step's work behind them -/

theorem moves_attemptDone (u start : Nat) (e : Entry) (s : State) : Moves s (attemptDone u start e s) :=
  moves_drain (by simp [writeDone]) []

theorem moves_attemptFailed (u : Nat) (e : Entry) (cause : Nat) (s : State) : Moves s (attemptFailed u e cause s) := by
  unfold attemptFailed
  dsimp only
  split <;> exact moves_drain (by simp [commitFailed]) _

theorem moves_tryFailed (u : Nat) (r : Read) (n cause : Nat) (s : State) : Moves s (tryFailed u r n cause s) := by
  unfold tryFailed
  split
  · exact moves_of_same (by simp)
  · exact moves_drain (by simp) _

theorem moves_landed {s t : State} (h : SameBooks s t) (r : Read) (b : List Byte) : Moves s (landed r b t) := by
  refine (moves_of_same h).trans ?_
  unfold landed
  split
  · exact moves_drain (by simp) _
  · exact moves_drain (by simp) _
  · split
    · exact moves_refl t
    · exact moves_drain (by simp) _

theorem moves_readAnswered (u : Nat) (r : Read) (n : Nat) (a : Option (List Byte)) (s : State) :
    Moves s (readAnswered u r n a s) := by
  unfold readAnswered
  split
  · exact moves_tryFailed u r n _ s
  · dsimp only
    split
    · exact moves_landed (by simp) r _
    · exact (moves_of_same (by simp)).trans (moves_tryFailed u r n _ _)

theorem moves_operationExpired (u : Nat) (w : Work) (s : State) : Moves s (operationExpired u w s) := by
  have htell : Moves s (tell (.abort u) s) := moves_of_same (by simp)
  unfold operationExpired
  dsimp only
  split
  · split
    · exact htell.trans (moves_attemptFailed ..)
    · exact moves_of_same (by simp)
  · exact htell.trans (moves_tryFailed ..)
  · exact moves_of_same (by simp)

theorem moves_collectItem (o i : Nat) {s t : State} (h : SameBooks s t) : Moves s (collectItem o i t) := by
  refine (moves_of_same h).trans ?_
  unfold collectItem
  split
  · exact moves_refl t
  · exact (moves_of_same (by simp)).trans (moves_settleIfDone o _)

theorem moves_advanceDate (s : State) : Moves s (advanceDate s) := by
  unfold advanceDate
  split
  · exact moves_refl s
  · dsimp only
    split
    · exact moves_drain (by simp) _
    · exact moves_of_same (by simp)

theorem moves_tick (s : State) : Moves s (tick s) :=
  (moves_of_same (advanceBase_sameBooks s)).trans (moves_advanceDate _)

end Sys2Proof.Machine.LedgerLaws
end

section
/-! What the requests' own rules do to the books (R31, R35, R39, R151, R181 to R184, R187, R188). -/

namespace Sys2Proof.Machine.LedgerLaws
open Sys2Proof Sys2Proof.Machine Sys2Proof.Machine.SlotLaws

/-- The rule leaves the books moved, at most. -/
abbrev MovesBooks {α : Type} (act : α → State → Checked) : Prop := ∀ f s, Leaves (Moves s) (act f s)

theorem leaves_same {s t : State} {l : List Wire} (h : SameBooks s t) : Leaves (Moves s) (done t l) :=
  leaves_done (moves_of_same h)

/-- A report changes nothing. -/
theorem leaves_report {s : State} (l : List Wire) : Leaves (Moves s) (done s l) := leaves_done (moves_refl s)

theorem leaves_drain {s t : State} {w : List Task} {l : List Wire} (h : SameBooks s t) :
    Leaves (Moves s) (done (drain w t) l) := leaves_done (moves_drain h w)

/-- A check at the front of a rule that the rest may rely on. -/
theorem leaves_ensure {P : State → Prop} {b : Bool} {r : Reason} {f : Unit → Checked}
    (h : b = true → Leaves P (f ())) : Leaves P (ensure b r >>= f) := by
  cases b with
  | false => exact leaves_error _
  | true => exact h rfl

/-- A lookup at the front of a rule, and what it found. -/
theorem leaves_lookup {P : State → Prop} {α : Type} {o : Option α} {r : Reason} {f : α → Checked}
    (h : ∀ a, o = some a → Leaves P (f a)) : Leaves P (lookup o r >>= f) := by
  cases o with
  | none => exact leaves_error _
  | some a => exact h a rfl

/-! ### Editions, deposits and units -/

theorem openEdition_moves : MovesBooks openEdition := fun _ _ =>
  leaves_bind fun _ => leaves_bind fun _ => leaves_bind fun _ => leaves_bind fun _ => leaves_bind fun _ =>
    leaves_bind fun _ => leaves_same (by simp)

theorem dropEdition_moves : MovesBooks dropEdition := fun _ _ =>
  leaves_bind fun _ => leaves_bind fun _ => leaves_same (by simp)

theorem editionInfo_moves : MovesBooks editionInfo := fun _ _ => leaves_bind fun _ => leaves_report _

theorem pageInfo_moves : MovesBooks pageInfo := fun _ _ =>
  leaves_bind fun _ => leaves_bind fun _ => leaves_report _

theorem plateInfo_moves : MovesBooks plateInfo := fun _ _ => leaves_bind fun _ => leaves_report _

theorem armSuppression_moves : MovesBooks armSuppression := fun _ _ =>
  leaves_bind fun _ => leaves_bind fun _ => leaves_bind fun _ => leaves_bind fun _ => leaves_same (by simp)

theorem moves_suppressPlate (r : PlateRef) (s : State) : Moves s (suppressPlate r s).1 := by
  unfold suppressPlate
  extract_lets tickets jobs t w counts
  have hw : Moves s w.state := (moves_of_same (by simp [t])).drainTally _
  exact hw.trans (moves_of_same (by simp))

theorem suppress_moves (a : Option Arm) : MovesBooks (suppress a) := fun _ s =>
  leaves_bind fun _ => leaves_bind fun _ => leaves_done (moves_suppressPlate _ s)

theorem deposit_moves : MovesBooks deposit := fun _ _ =>
  leaves_bind fun _ => leaves_bind fun _ => leaves_bind fun _ => leaves_bind fun _ => leaves_bind fun _ =>
    leaves_bind fun _ => leaves_bind fun _ => leaves_same (by simp)

theorem redeposit_moves : MovesBooks redeposit := fun _ _ =>
  leaves_bind fun _ => leaves_bind fun _ => leaves_bind fun _ => leaves_bind fun _ => leaves_bind fun _ =>
    leaves_bind fun _ => leaves_bind fun _ => leaves_same (by simp [replaceUses])

theorem depositEnd_moves : MovesBooks depositEnd := fun _ _ => leaves_bind fun _ => leaves_bind fun _ => by
  split
  · exact leaves_same (by simp)
  · exact leaves_drain (by simp)

theorem withdrawPlate_moves : MovesBooks withdrawPlate := fun _ _ =>
  leaves_bind fun _ => leaves_bind fun _ => leaves_bind fun _ => leaves_bind fun _ => leaves_bind fun _ =>
    leaves_drain (by simp)

theorem closeEdition_moves : MovesBooks closeEdition := fun _ _ =>
  leaves_bind fun _ => leaves_bind fun _ => leaves_bind fun _ => by
    split
    · exact leaves_refuse ..
    · split
      · exact leaves_refuse ..
      · split <;> exact leaves_same (by simp)

theorem unitState_moves : MovesBooks unitState := fun _ _ =>
  leaves_bind fun _ => leaves_bind fun _ => leaves_bind fun _ => leaves_same (by simp)

theorem changeHold_moves (on : Bool) : MovesBooks (changeHold on) := fun _ _ =>
  leaves_bind fun _ => leaves_same (by simp)

theorem setCommitLimit_moves : MovesBooks setCommitLimit := fun _ _ => leaves_bind fun _ => leaves_same (by simp)

/-! ### Photos -/

/-- A rights request leaves each photo a holder of the table, or the one it named (R31, R32, R35). -/
theorem moves_photos {s t : State} (h : ∀ p ∈ t.photos, p.holder ≤ 63 ∨ ∃ q ∈ s.photos, q.holder = p.holder)
    (ha : t.accounts = s.accounts) (hh : t.holders = s.holders) (hr : t.revenue = s.revenue)
    (ho : t.orders = s.orders) : Moves s t := by
  refine moves_of_move (.photos (l := t.photos.map (·.holder)) fun k hk => ?_) ?_
  · obtain ⟨p, hp, rfl⟩ := List.mem_map.mp hk
    exact (h p hp).imp id fun ⟨q, hq, he⟩ => List.mem_map.mpr ⟨q, hq, he⟩
  · simp only [books, ha, hh, hr, ho]

/-- A photo record that a request writes names a holder of the table. -/
theorem moves_modifyPhoto {n : Nat} {f : Photo → Photo} (hf : ∀ p, (f p).holder ≤ 63) (s : State) :
    Moves s (modifyPhoto n f s) := by
  refine moves_photos (fun p hp => ?_) (by simp) (by simp) (by simp) (by simp)
  obtain ⟨q, hq, rfl⟩ := List.mem_map.mp hp
  by_cases hn : q.number = n
  · exact .inl (by simpa [hn] using hf q)
  · exact .inr ⟨q, hq, by simp [hn]⟩

theorem holder_le_of_rightsInRange {holder fee share : Nat} (h : rightsInRange holder fee share = true) :
    holder ≤ 63 := (of_decide_eq_true h).1

theorem moves_filePhotoRecord {r : FilePhotoReq} (h : r.holder ≤ 63) (s : State) : Moves s (filePhotoRecord r s) := by
  unfold filePhotoRecord
  split
  · refine moves_photos (fun p hp => ?_) rfl rfl rfl rfl
    obtain hp | hp := List.mem_append.mp hp
    · exact .inr ⟨p, hp, rfl⟩
    · obtain rfl := List.mem_singleton.mp hp
      exact .inl h
  · exact moves_modifyPhoto (fun _ => h) s

theorem filePhoto_moves : MovesBooks filePhoto := fun _ _ =>
  leaves_bind fun _ => leaves_ensure fun hrange => leaves_bind fun _ => leaves_bind fun _ =>
    leaves_done ((moves_filePhotoRecord (holder_le_of_rightsInRange (Bool.and_eq_true _ _ ▸ hrange).2) _).trans
      (moves_of_same (by simp)))

theorem setRights_moves : MovesBooks setRights := fun _ s =>
  leaves_bind fun _ => leaves_ensure fun hrange =>
    leaves_done ((moves_modifyPhoto (f := Photo.setRights _) (fun _ => holder_le_of_rightsInRange hrange) s).drain _)

theorem barPhoto_moves : MovesBooks barPhoto := fun n s => leaves_bind fun _ => by
  extract_lets t w counts
  have hw : Moves s w.state := (moves_of_same (by simp [t])).drainTally _
  have hbar := modifyPhoto_sameBooks n (f := fun p => { p with barred := true }) (fun _ => rfl) w.state
  exact leaves_done (hw.trans (moves_of_same (hbar.trans (by simp))))

theorem unbarPhoto_moves : MovesBooks unbarPhoto := fun n s =>
  leaves_bind fun _ => leaves_same (modifyPhoto_sameBooks n (f := fun p => { p with barred := false }) (fun _ => rfl) s)

theorem moves_dropPhoto (n : Nat) (s : State) :
    Moves s { s with photos := s.photos.filter fun q => decide (q.number ≠ n) } :=
  moves_photos (fun q hq => .inr ⟨q, List.mem_of_mem_filter hq, rfl⟩) rfl rfl rfl rfl

theorem removePhoto_moves : MovesBooks removePhoto := fun n s =>
  leaves_bind fun p => leaves_bind fun _ => leaves_bind fun _ => leaves_bind fun _ =>
    leaves_done (((moves_of_same (giveBackPhoto_sameBooks p s)).trans (moves_dropPhoto n _)).drain [])

theorem photoInfo_moves : MovesBooks photoInfo := fun _ _ => leaves_bind fun _ => leaves_report _

/-! ### Desk fetches and restoration -/

theorem fetchContent_moves (tag : Nat) : MovesBooks (fetchContent tag) := fun _ _ =>
  leaves_bind fun _ => leaves_bind fun _ => leaves_bind fun _ => by
    unfold fetchTicket
    split
    · split
      · exact moves_of_same (by simp [deliverTicket])
      · exact moves_refl _
    · (repeat' split)
      · exact leaves_error _
      · exact leaves_error _
      · exact moves_drain (by simp) _

theorem restorePlate_moves : MovesBooks restorePlate := fun _ s =>
  leaves_bind fun _ => leaves_bind fun _ => leaves_bind fun _ => leaves_bind fun _ => leaves_bind fun _ =>
    leaves_bind fun _ => by
      split
      · split
        · exact leaves_drain (by simp)
        · exact leaves_refuse ..
      · split
        · exact leaves_report _
        · (repeat' split)
          · exact leaves_refuse ..
          · exact leaves_refuse ..
          · exact leaves_drain (by simp [addJob])

theorem jobInfo_moves : MovesBooks jobInfo := fun n s => by
  unfold jobInfo
  (repeat' split)
  · exact leaves_refuse ..
  · exact leaves_report _
  · exact leaves_report _

theorem cancelJob_moves : MovesBooks cancelJob := fun _ _ =>
  leaves_bind fun _ => leaves_bind fun _ => leaves_bind fun _ => leaves_drain (by simp)

theorem setProfile_moves : MovesBooks setProfile := fun _ _ =>
  leaves_bind fun _ => leaves_bind fun _ => leaves_bind fun _ => leaves_same (by simp)

theorem setTone_moves : MovesBooks setTone := fun _ _ => leaves_bind fun _ => leaves_bind fun _ => leaves_same (by simp)

end Sys2Proof.Machine.LedgerLaws
end

section
/-! The requests of orders, accounts and holders (R147 to R151, R160, R163, R181 to R189). -/

namespace Sys2Proof.Machine.LedgerLaws
open Sys2Proof Sys2Proof.Machine Sys2Proof.Machine.SlotLaws

/-! ### The number of a new order (R97, R145) -/

/-- The search for a free number gives one in use only when every number it has looked at is in use. -/
theorem freeNumberFrom_mem {used : List Nat} {k n : Nat} (h : freeNumberFrom k n used ∈ used) :
    ∀ j ≤ k, numberAfter^[j] n ∈ used := by
  induction k generalizing n with
  | zero =>
    intro j hj
    obtain rfl := Nat.le_zero.mp hj
    exact h
  | succ k ih =>
    unfold freeNumberFrom at h
    split at h
    · next hn =>
      intro j hj
      cases j with
      | zero => exact hn
      | succ j => exact ih h j (Nat.le_of_succ_le_succ hj)
    · next hn => exact absurd h hn

theorem numberAfter_iterate (j n : Nat) : numberAfter^[j + 1] n = (n + j) % 255 + 1 := by
  induction j generalizing n with
  | zero => rfl
  | succ j ih =>
    rw [Function.iterate_succ_apply, ih, numberAfter]
    omega

/-- With fewer than 255 numbers in use the number given is not in use (R97). -/
theorem freeNumber_not_mem {used : List Nat} (h : used.length < 255) (next : Nat) : freeNumber next used ∉ used := by
  intro hmem
  have hsub : (List.range 255).map (fun j => (next + j) % 255 + 1) ⊆ used := by
    intro m hm
    obtain ⟨j, hj, rfl⟩ := List.mem_map.mp hm
    rw [← numberAfter_iterate]
    exact freeNumberFrom_mem hmem _ (List.mem_range.mp hj)
  have hnodup : ((List.range 255).map fun j => (next + j) % 255 + 1).Nodup := by
    refine List.Nodup.map_on (fun j hj k hk he => ?_) List.nodup_range
    rw [List.mem_range] at hj hk
    omega
  have hlength := (hnodup.subperm hsub).length_le
  simp only [List.length_map, List.length_range] at hlength
  omega

/-! ### PLACE-ORDER (R147 to R151) -/

/-- An item's snapshot names the holder of its photo, or holder 0 (R169). -/
def NamesHolder (s : State) (i : ItemRec) : Prop :=
  i.snapshot.holder = 0 ∨ ∃ p ∈ s.photos, p.holder = i.snapshot.holder

/-- An examination that passes has passed its first check. -/
theorem ok_of_bind {α : Type} {x : Except Reason α} {f : α → Except Reason ItemRec} {i : ItemRec}
    (h : (x >>= f) = .ok i) : ∃ a, x = .ok a ∧ f a = .ok i := by
  cases x with
  | error e => cases h
  | ok a => exact ⟨a, rfl, h⟩

theorem eq_some_of_found {α : Type} {o : Option α} {r : Reason} {a : α} (h : found o r = .ok a) : o = some a := by
  cases o with
  | none => cases h
  | some b => cases h; rfl

theorem photoItem_namesHolder {s : State} {p : Product} {n choice : Nat} {i : ItemRec}
    (h : photoItem s p n choice = .ok i) : NamesHolder s i := by
  obtain ⟨-, -, h⟩ := ok_of_bind h
  obtain ⟨x, hx, h⟩ := ok_of_bind h
  obtain ⟨-, -, h⟩ := ok_of_bind h
  obtain ⟨-, -, h⟩ := ok_of_bind h
  obtain ⟨-, -, h⟩ := ok_of_bind h
  obtain ⟨-, -, h⟩ := ok_of_bind h
  cases h
  exact .inr ⟨x, List.mem_of_find?_eq_some (eq_some_of_found hx), rfl⟩

theorem plateItem_namesHolder {s : State} {earlier : List (Subject × Bound)} {p : Product} {r : PlateReq}
    {choice profile : Nat} {i : ItemRec} (h : plateItem s earlier p r choice profile = .ok i) : NamesHolder s i := by
  obtain ⟨-, -, h⟩ := ok_of_bind h
  obtain ⟨c, -, h⟩ := ok_of_bind h
  obtain ⟨x, -, h⟩ := ok_of_bind h
  obtain ⟨-, -, h⟩ := ok_of_bind h
  obtain ⟨-, -, h⟩ := ok_of_bind h
  obtain ⟨-, -, h⟩ := ok_of_bind h
  dsimp only at h
  split at h
  · cases h
    exact .inl rfl
  · obtain ⟨-, -, h⟩ := ok_of_bind h
    cases h
    exact .inl rfl

theorem examineItem_namesHolder {s : State} {earlier : List (Subject × Bound)} {q : ItemReq} {i : ItemRec}
    (h : examineItem s earlier q = .ok i) : NamesHolder s i := by
  obtain ⟨p, -, h⟩ := ok_of_bind h
  split at h
  · cases h
  · exact photoItem_namesHolder h
  · exact plateItem_namesHolder h

theorem examineItems_nameHolders {s : State} {items : List ItemRec} {reqs : List ItemReq}
    (h : examineItems s [] reqs = .ok items) : ∀ i ∈ items, NamesHolder s i := by
  obtain ⟨new, rfl, hlength, hnew⟩ := (PlaceOrderLaws.examineItems_ok_iff s [] items reqs).mp h
  intro i hi
  obtain ⟨k, hk⟩ := List.mem_iff_getElem?.mp hi
  obtain ⟨hlt, -⟩ := List.getElem?_eq_some_iff.mp hk
  exact examineItem_namesHolder (hnew k _ i (List.getElem?_eq_getElem (hlength ▸ hlt)) hk)

theorem moves_acceptOrder {s : State} {a : Account} {items : List ItemRec} (ha : a ∈ s.accounts)
    (hroom : s.orders.length < 32) (hitems : ∀ i ∈ items, NamesHolder s i) :
    Moves s (acceptOrder a items s).2 := by
  unfold acceptOrder
  extract_lets n sum o t
  refine Moves.drain (moves_of_move (.accept (x := terms o) ?_ ?_ ?_ ?_) ?_) _
  · have hnumber : n ∉ s.orders.map (·.number) := freeNumber_not_mem (by rw [List.length_map]; omega) _
    simpa [books, terms, o] using hnumber
  · simpa [books] using hroom
  · exact List.mem_map.mpr ⟨reserve a, List.mem_map_of_mem ha, rfl⟩
  · intro h hh
    obtain ⟨i, hi, rfl⟩ := List.mem_map.mp hh
    exact (hitems i hi).imp id fun ⟨p, hp, he⟩ => List.mem_map.mpr ⟨p, hp, he⟩
  · have haccounts := map_reserve a.number (l := s.accounts) (f := fun a => { a with reserved := a.reserved + sum })
      (g := fun n => n + sum) fun _ => rfl
    simp only [books, t, modifyAccount_keeps, modifyAccount_writes, haccounts, List.map_append]
    rfl

theorem placeOrder_moves : MovesBooks placeOrder := fun _ _ =>
  leaves_bind fun _ => leaves_bind fun _ => leaves_bind fun _ => leaves_lookup fun a ha => leaves_bind fun _ =>
    leaves_ensure fun hroom => by
      cases hitems : examineItems _ [] _ with
      | error b => exact leaves_error b
      | ok items =>
        simp only [ok_bind]
        split
        · exact leaves_refuse ..
        · exact leaves_done (moves_acceptOrder (List.mem_of_find?_eq_some ha) (of_decide_eq_true hroom)
            (examineItems_nameHolders hitems))


theorem orderInfo_moves : MovesBooks orderInfo := fun n _ => by
  cases n with
  | none => exact leaves_report _
  | some n => exact leaves_bind fun _ => leaves_bind fun _ => leaves_report _

theorem collect_moves (tag : Nat) : MovesBooks (collect tag) := fun _ s => by
  unfold collect
  refine leaves_bind fun _ => leaves_bind fun _ => leaves_bind fun x => ?_
  cases x.state with
  | ready timer => exact moves_of_same (by simp [deliverItem])
  | collected => exact leaves_refuse ..
  | cancelled reason => exact leaves_refuse ..
  | _ => exact moves_refl s

theorem cancelOrder_moves : MovesBooks cancelOrder := fun _ s =>
  leaves_bind fun _ => leaves_bind fun _ => leaves_done ((moves_refl s).drainTally _)

/-! ### Tariff, accounts and holders -/

theorem setTariff_moves : MovesBooks setTariff := fun _ _ => leaves_bind fun _ => leaves_same (by simp)

theorem moves_openAccount {s : State} {a : Account} (hnew : (findAccount s a.number).isNone = true)
    (hreserved : a.reserved = 0) : Moves s { s with accounts := s.accounts ++ [a] } := by
  refine moves_of_move (.openAccount (n := a.number) fun hn => ?_) ?_
  · obtain ⟨x, hx, hn⟩ := List.mem_map.mp hn
    obtain ⟨b, hb, rfl⟩ := List.mem_map.mp hx
    have hnone := List.find?_eq_none.mp (Option.isNone_iff_eq_none.mp hnew) b hb
    exact hnone (decide_eq_true hn)
  · simp only [books, List.map_append, List.map_cons, List.map_nil, reserve, hreserved]

theorem openAccount_moves : MovesBooks openAccount := fun _ _ =>
  leaves_bind fun _ => leaves_bind fun _ => leaves_ensure fun hnew => leaves_done (moves_openAccount hnew rfl)

theorem creditAccount_moves : MovesBooks creditAccount := fun r s =>
  leaves_bind fun _ => leaves_bind fun a => leaves_bind fun _ => leaves_bind fun _ =>
    leaves_same (modifyAccount_sameBooks r.account
      (f := fun b => { b with balance := a.balance + r.adjustment }) (fun _ => rfl) s)

theorem limitAccount_moves : MovesBooks limitAccount := fun r s =>
  leaves_bind fun _ => leaves_bind fun _ => leaves_bind fun _ => leaves_bind fun _ =>
    leaves_same (modifyAccount_sameBooks r.account
      (f := fun a => { a with limit := r.limit, tier := min r.tier 250 }) (fun _ => rfl) s)

theorem setAccountState_moves : MovesBooks setAccountState := fun r s =>
  leaves_bind fun _ => leaves_bind fun b => leaves_bind fun _ =>
    leaves_same (modifyAccount_sameBooks r.account (f := fun a => { a with suspended := b }) (fun _ => rfl) s)

theorem accountInfo_moves : MovesBooks accountInfo := fun _ _ =>
  leaves_bind fun _ => leaves_bind fun _ => leaves_report _

theorem setHolder_moves : MovesBooks setHolder := fun r s => leaves_bind fun _ => leaves_bind fun _ => by
  have hsums := map_modify (f := sums) (g := fun h => { h with label := r.label }) (g' := id) (fun _ => rfl)
    s.holders r.holder
  exact leaves_same ⟨rfl, hsums.trans (List.modify_id ..), rfl, rfl, rfl⟩

theorem moves_pay {s : State} {k amount : Nat} {h : HolderRec} (hk : s.holders[k]? = some h)
    (hamount : h.paid + amount ≤ h.accrued) :
    Moves s (modifyHolder k (fun h => { h with paid := h.paid + amount }) s) := by
  refine moves_of_move (.pay (k := k) (amount := amount) fun p hp => ?_) ?_
  · simp only [books, List.getElem?_map, hk, Option.map_some, Option.some.injEq] at hp
    subst hp
    exact hamount
  · have hsums := map_modify (f := sums) (g := fun h => { h with paid := h.paid + amount })
      (g' := fun p => (p.1, p.2 + amount)) (fun _ => rfl) s.holders k
    simp only [books, modifyHolder, hsums]

theorem payHolder_moves : MovesBooks payHolder := fun _ _ =>
  leaves_bind fun _ => leaves_lookup fun _ hk => leaves_ensure fun hamount =>
    leaves_done (moves_pay hk (of_decide_eq_true hamount))

theorem revenueInfo_moves : MovesBooks revenueInfo := fun n _ => by
  cases n with
  | none => exact leaves_report _
  | some n => exact leaves_bind fun _ => leaves_bind fun _ => leaves_report _

theorem takeNotices_moves : MovesBooks takeNotices := fun _ _ => leaves_same (by simp)

theorem setFilter_moves : MovesBooks setFilter := fun _ _ =>
  leaves_bind fun _ => leaves_bind fun _ => leaves_bind fun _ => leaves_bind fun _ => leaves_bind fun _ =>
    leaves_same (by simp)

theorem setDate_moves : MovesBooks setDate := fun _ _ => leaves_bind fun _ => leaves_drain (by simp)

end Sys2Proof.Machine.LedgerLaws
end

section
/-! Every command moves the books, at most. -/

namespace Sys2Proof.Machine.LedgerLaws
open Sys2Proof Sys2Proof.Machine Sys2Proof.Machine.SlotLaws

/-- The command's outcome is a state to which the books have gone by moves. -/
abbrev EndsMoved (s : State) (x : Answered) : Prop := ∃ t, x = .next t ∧ Moves s t

theorem ends_moved {s t : State} (h : Moves s t) : EndsMoved s (.next t) := ⟨t, rfl, h⟩

theorem ends_books {s t : State} (h : SameBooks s t) : EndsMoved s (.next t) := ends_moved (moves_of_same h)

/-- A request moves nothing by being taken or answered; its rule decides. -/
theorem ends_rule {α : Type} {c : Instr} {r : Taken α} {act : α → State → Checked} {s : State} (hact : MovesBooks act) :
    EndsMoved s (.next (request c r act s)) := by
  refine ends_moved ?_
  by_cases htakes : Takes c s
  · have htaken : Moves s (taken s) := moves_of_same (by simp)
    unfold request
    rw [takeRequest_takes htakes]
    dsimp only
    split
    · exact htaken
    · split
      · exact htaken
      · next f _ => exact leaves_answer (fun _ _ h => h) htaken ((hact f (taken s)).mono fun _ h => htaken.trans h)
  · rw [request_not_taken htakes]
    exact moves_refl s

theorem status_moved (r : Taken Unit) (s : State) : EndsMoved s (execStatus r s) := by
  by_cases htakes : Takes (.status r) s
  · rw [AccountLaws.execStatus_takes htakes]
    split <;> exact ends_books (by simp)
  · unfold execStatus
    rw [takeRequest_not htakes]
    exact ends_moved (moves_refl s)

theorem unknownRequest_moved (tag code : Nat) (s : State) : EndsMoved s (execUnknownRequest tag code s) := by
  unfold execUnknownRequest
  split
  · exact ends_moved (moves_refl s)
  · exact ends_rule fun _ _ => leaves_refuse ..

/-! ### The events that let a step's work go on -/

theorem tileWritten_moved (s : State) : EndsMoved s (execTileWritten s) := by
  refine ends_moved ?_
  split
  · exact moves_refl s
  · split
    · exact moves_refl s
    · dsimp only
      split
      · exact moves_of_same (by simp)
      · exact moves_drain (by simp) []

theorem ticketDeliveryEnd_moved (s : State) : EndsMoved s (execTicketDeliveryEnd s) := by
  refine ends_moved ?_
  split
  · dsimp only
    split
    · exact moves_drain (by simp) []
    · exact moves_of_same (by simp)
  · exact moves_refl s

theorem itemDeliveryEnd_moved (s : State) : EndsMoved s (execItemDeliveryEnd s) := by
  refine ends_moved ?_
  split
  · exact (moves_collectItem _ _ (endStream_sameBooks _ s)).drain []
  · exact moves_refl s

theorem stallTimerExpiry_moved (k : Nat) (s : State) : EndsMoved s (execStallTimerExpiry k s) := by
  refine ends_moved ?_
  split
  · exact moves_refl s
  · split
    · exact moves_drain (by simp) []
    · exact moves_refl s

theorem ticketCollectExpiry_moved (n : Nat) (s : State) : EndsMoved s (execTicketCollectExpiry n s) := by
  refine ends_moved ?_
  (repeat' split)
  · exact moves_refl s
  · exact moves_drain (by simp) []
  · exact moves_refl s
  · exact moves_refl s

theorem itemCollectExpiry_moved (o i : Nat) (s : State) : EndsMoved s (execItemCollectExpiry o i s) := by
  refine ends_moved ?_
  (repeat' split)
  · exact moves_refl s
  · exact (moves_cancelItem o i .expired s).drain _
  · exact moves_refl s
  · exact moves_refl s

theorem operationLimitExpiry_moved (u : Nat) (s : State) : EndsMoved s (execOperationLimitExpiry u s) := by
  refine ends_moved ?_
  (repeat' split)
  · exact moves_operationExpired ..
  · exact moves_refl s
  · exact moves_refl s

theorem readAnswer_moved (a : UnitOp) (b : Option (List Byte)) (s : State) : EndsMoved s (execReadAnswer a b s) := by
  refine ends_moved ?_
  split
  · exact moves_readAnswered ..
  · exact moves_of_same (by simp)
  · exact moves_refl s

theorem linkReset_moved (s : State) : EndsMoved s (execLinkReset s) := by
  refine ends_moved ?_
  (repeat' split)
  · exact moves_linkTakesEffect s
  · exact moves_of_same (by simp)
  · exact moves_refl s

/-! ### The commands one by one -/

/-- No command changes the books but by moves. -/
theorem moves_exec (c : Instr) (s : State) : EndsMoved s (exec c s) := by
  cases c with
  | openEdition => exact ends_rule openEdition_moves
  | dropEdition => exact ends_rule dropEdition_moves
  | editionInfo => exact ends_rule editionInfo_moves
  | pageInfo => exact ends_rule pageInfo_moves
  | plateInfo => exact ends_rule plateInfo_moves
  | suppressArm => exact ends_rule armSuppression_moves
  | suppress => exact ends_rule (suppress_moves _)
  | filePhoto => exact ends_rule filePhoto_moves
  | setRights => exact ends_rule setRights_moves
  | barPhoto => exact ends_rule barPhoto_moves
  | unbarPhoto => exact ends_rule unbarPhoto_moves
  | removePhoto => exact ends_rule removePhoto_moves
  | photoInfo => exact ends_rule photoInfo_moves
  | deposit => exact ends_rule deposit_moves
  | redeposit => exact ends_rule redeposit_moves
  | depositEnd => exact ends_rule depositEnd_moves
  | withdrawPlate => exact ends_rule withdrawPlate_moves
  | closeEdition => exact ends_rule closeEdition_moves
  | unitList => exact ends_rule fun _ _ => leaves_report _
  | unitState => exact ends_rule unitState_moves
  | holdClass => exact ends_rule (changeHold_moves true)
  | releaseClass => exact ends_rule (changeHold_moves false)
  | setCommitLimit => exact ends_rule setCommitLimit_moves
  | queueList => exact ends_rule fun _ _ => leaves_report _
  | fetch => exact ends_rule (fetchContent_moves _)
  | ticketList => exact ends_rule fun _ _ => leaves_report _
  | restore => exact ends_rule restorePlate_moves
  | jobInfo => exact ends_rule jobInfo_moves
  | cancelJob => exact ends_rule cancelJob_moves
  | setProfile => exact ends_rule setProfile_moves
  | toneTable => exact ends_rule setTone_moves
  | placeOrder => exact ends_rule placeOrder_moves
  | orderInfo => exact ends_rule orderInfo_moves
  | collect => exact ends_rule (collect_moves _)
  | cancelOrder => exact ends_rule cancelOrder_moves
  | setTariff => exact ends_rule setTariff_moves
  | accountOpen => exact ends_rule openAccount_moves
  | accountCredit => exact ends_rule creditAccount_moves
  | accountLimit => exact ends_rule limitAccount_moves
  | accountState => exact ends_rule setAccountState_moves
  | accountInfo => exact ends_rule accountInfo_moves
  | holderSet => exact ends_rule setHolder_moves
  | holderPayout => exact ends_rule payHolder_moves
  | revenueInfo => exact ends_rule revenueInfo_moves
  | status r => exact status_moved r s
  | takeNotices => exact ends_rule takeNotices_moves
  | setFilter => exact ends_rule setFilter_moves
  | reset => exact ends_rule fun _ _ => leaves_same (by simp)
  | setDate => exact ends_rule setDate_moves
  | unknownRequest tag code => exact unknownRequest_moved tag code s
  | requestFrame => exact ends_books (receive_sameBooks ..)
  | dataIn => exact ends_books (receive_sameBooks ..)
  | frameDiscard => exact ends_books (receive_sameBooks ..)
  | ticketDeliveryEnd => exact ticketDeliveryEnd_moved s
  | itemDeliveryEnd => exact itemDeliveryEnd_moved s
  | stallTimerExpiry k => exact stallTimerExpiry_moved k s
  | ticketCollectExpiry n => exact ticketCollectExpiry_moved n s
  | itemCollectExpiry o i => exact itemCollectExpiry_moved o i s
  | closeTimerExpiry => exact ends_books (by (repeat' split) <;> simp)
  | armTimerExpiry => exact ends_books (by (repeat' split) <;> simp)
  | operationLimitExpiry u => exact operationLimitExpiry_moved u s
  | writeHoldExpiry => exact ends_books (by (repeat' split) <;> simp)
  | timeBaseTick => exact ends_moved (moves_tick s)
  | timeWrap => exact ends_moved (by split <;> [exact moves_tick s; exact moves_refl s])
  | dayRoll => exact ends_moved (by split <;> [exact moves_tick s; exact moves_refl s])
  | commitGrant => exact ends_books (by split <;> simp)
  | readGrant => exact ends_books (by split <;> simp)
  | writeVerifyOk => exact ends_moved (by split <;> [exact moves_attemptDone ..; exact moves_refl s])
  | writeVerifyError => exact ends_moved (by split <;> [exact moves_attemptFailed ..; exact moves_refl s])
  | readAnswer a b => exact readAnswer_moved a b s
  | tileWritten => exact tileWritten_moved s
  | supplyLow => exact ends_books (by split <;> simp)
  | supplyNormal => exact ends_books (by split <;> simp)
  | brownoutReset => exact ends_moved ((moves_hardReset .brownout s).trans (moves_of_same (by simp)))
  | powerReset => exact ends_moved ((moves_hardReset .power s).trans (moves_of_same (by simp)))
  | supplyRecovered => exact ends_books (by split <;> simp)
  | lineAssert =>
    exact ends_moved (by
      split
      · exact moves_refl s
      · exact (moves_hardReset .line s).trans (moves_of_same (by simp)))
  | lineRelease => exact ends_books (by split <;> simp)
  | linkReset => exact linkReset_moved s
  | unitQueryAnswer => exact ends_books (by split <;> simp)
  | queryLimitExpiry => exact ends_books (by (repeat' split) <;> simp)

/-- A step runs the command at the front of the queue, so its books go by moves. -/
theorem moves_step {s t : State} (h : step s = .next t) : Moves s t := by
  unfold step at h
  split at h
  · cases h
    exact moves_refl s
  · next c rest _ =>
    obtain ⟨u, hu, hmoves⟩ := moves_exec c { s with pending := rest }
    cases hu.symm.trans h
    exact hmoves

end Sys2Proof.Machine.LedgerLaws
end

section
/-! What every move of the books keeps: the counters and sums that never fall, the accruals in step, and the reservations
(R178 to R180, R186, R188). -/

namespace Sys2Proof.Machine.LedgerLaws
open Sys2Proof Sys2Proof.Machine

/-- What every move keeps is kept by moves in a row. -/
theorem kept_by_moves {P : Books → Prop} (hmove : ∀ {b c}, Move b c → P b → P c) {b c : Books}
    (h : Relation.ReflTransGen Move b c) (hb : P b) : P c := by
  induction h with
  | refl => exact hb
  | tail _ hlast ih => exact hmove hlast ih

/-! ### Nothing falls (R179, R186) -/

/-- No holder's accrued or paid is lower in the second list. -/
def SumsRise (l m : List (Nat × Nat)) : Prop := ∀ (k : Nat) (a : Nat × Nat), l[k]? = some a → ∃ b, m[k]? = some b ∧ a ≤ b

theorem SumsRise.refl (l : List (Nat × Nat)) : SumsRise l l := fun _ a ha => ⟨a, ha, le_rfl⟩

theorem SumsRise.trans {l m n : List (Nat × Nat)} (h : SumsRise l m) (h' : SumsRise m n) : SumsRise l n := by
  intro k a ha
  obtain ⟨b, hb, hab⟩ := h k a ha
  obtain ⟨c, hc, hbc⟩ := h' k b hb
  exact ⟨c, hc, hab.trans hbc⟩

theorem sumsRise_modify {f : Nat × Nat → Nat × Nat} (hf : ∀ a, a ≤ f a) (l : List (Nat × Nat)) (k : Nat) :
    SumsRise l (l.modify k f) := by
  intro n a ha
  rw [List.getElem?_modify, ha]
  by_cases hk : k = n
  · exact ⟨f a, by simp [hk], hf a⟩
  · exact ⟨a, by simp [hk], le_rfl⟩

theorem sumsRise_accrue (sold : List ItemRec) (l : List (Nat × Nat)) : SumsRise l (sold.foldl accrue l) := by
  induction sold generalizing l with
  | nil => exact .refl l
  | cons i sold ih =>
    exact (sumsRise_modify (f := fun h => (h.1 + i.snapshot.accrual, h.2))
      (fun _ => ⟨Nat.le_add_right _ _, le_rfl⟩) l i.snapshot.holder).trans (ih _)

/-- No counter and no holder's sum is lower in the second books. -/
structure Risen (b c : Books) : Prop where
  orders : b.revenue.orders ≤ c.revenue.orders
  charges : b.revenue.charges ≤ c.revenue.charges
  rights : b.revenue.rights ≤ c.revenue.rights
  accruals : b.revenue.accruals ≤ c.revenue.accruals
  houseRights : b.revenue.houseRights ≤ c.revenue.houseRights
  houseRevenue : b.revenue.houseRevenue ≤ c.revenue.houseRevenue
  sums : SumsRise b.holders c.holders

theorem Risen.refl (b : Books) : Risen b b := ⟨le_rfl, le_rfl, le_rfl, le_rfl, le_rfl, le_rfl, .refl _⟩

theorem Risen.trans {b c d : Books} (h : Risen b c) (h' : Risen c d) : Risen b d where
  orders := h.orders.trans h'.orders
  charges := h.charges.trans h'.charges
  rights := h.rights.trans h'.rights
  accruals := h.accruals.trans h'.accruals
  houseRights := h.houseRights.trans h'.houseRights
  houseRevenue := h.houseRevenue.trans h'.houseRevenue
  sums := h.sums.trans h'.sums

/-- Every move of the counters and the sums adds to them. -/
theorem Move.risen {b c : Books} (h : Move b c) : Risen b c := by
  have still : Risen b b := .refl b
  cases h with
  | settle hx hsold charge =>
    exact ⟨Nat.le_add_right _ _, Nat.le_add_right _ _, Nat.le_add_right _ _, Nat.le_add_right _ _,
      Nat.le_add_right _ _, Nat.le_add_right _ _, sumsRise_accrue _ _⟩
  | @pay k amount =>
    have hsums : SumsRise b.holders (b.holders.modify k fun p => (p.1, p.2 + amount)) :=
      sumsRise_modify (f := fun p => (p.1, p.2 + amount)) (fun _ => ⟨le_rfl, Nat.le_add_right _ _⟩) _ _
    exact { still with sums := hsums }
  | accept => exact { still with }
  | openAccount => exact { still with }
  | photos => exact { still with }
  | discard => exact { still with }

/-- Settles O10: every command moves the books, and every move adds to the counters and the sums or leaves them. -/
theorem revenueNeverFalls : Obligations.RevenueNeverFalls := by
  intro s t h
  have hrisen : Risen (books s) (books t) :=
    kept_by_moves (fun hmove hb => hb.trans hmove.risen) (moves_step h) (.refl _)
  refine ⟨hrisen.orders, hrisen.charges, hrisen.rights, hrisen.accruals, hrisen.houseRights, hrisen.houseRevenue,
    fun k a b ha hb => ?_⟩
  obtain ⟨c, hc, hle⟩ := hrisen.sums k (sums a) (by simp [books, ha])
  obtain rfl : sums b = c := by simpa [books, hb] using hc
  exact hle

/-! ### The accruals in step (R178, R179, R186, R188) -/

/-- The table of 64 holders agrees with a sum of accruals: holder 0 has accrued nothing, no holder is paid more than it
has accrued, and the others' accrued make the sum. -/
structure Accrued (l : List (Nat × Nat)) (total : Nat) : Prop where
  length : l.length = 64
  house : (l.map (·.1)).head? = some 0
  paid : ∀ h ∈ l, h.2 ≤ h.1
  total : total = ((l.map (·.1)).drop 1).sum

/-- A member of a list with one member changed. -/
theorem mem_modify {α : Type} {f : α → α} {l : List α} {k : Nat} {a : α} (h : a ∈ l.modify k f) :
    a ∈ l ∨ ∃ b, l[k]? = some b ∧ a = f b := by
  obtain ⟨n, hn⟩ := List.mem_iff_getElem?.mp h
  obtain ⟨b, hb, rfl⟩ := Option.map_eq_some_iff.mp (List.getElem?_modify f k l n ▸ hn)
  by_cases hk : k = n
  · exact .inr ⟨b, hk ▸ hb, by simp [hk]⟩
  · exact .inl (by simpa [hk] using List.mem_of_getElem? hb)

/-- One number of a sum raised. -/
theorem sum_modify_add (m : Nat) {l : List Nat} {k : Nat} (hk : k < l.length) :
    (l.modify k (· + m)).sum = l.sum + m := by
  induction l generalizing k with
  | nil => contradiction
  | cons a l ih =>
    cases k with
    | zero => simp only [List.modify_zero_cons, List.sum_cons]; omega
    | succ k => simp only [List.modify_succ_cons, List.sum_cons, ih (Nat.lt_of_succ_lt_succ hk), Nat.add_assoc]

/-- What holder 0 does not accrue raises the sum of the others'. -/
theorem accrued_modify_add {l : List Nat} {total k m : Nat} (hk : k < l.length) (hm : k = 0 → m = 0)
    (hhouse : l.head? = some 0) (htotal : total = (l.drop 1).sum) :
    (l.modify k (· + m)).head? = some 0 ∧ total + m = ((l.modify k (· + m)).drop 1).sum := by
  obtain ⟨rest, rfl⟩ := List.head?_eq_some_iff.mp hhouse
  cases k with
  | zero => simpa [hm rfl] using htotal
  | succ k => simpa [sum_modify_add m (Nat.lt_of_succ_lt_succ hk)] using htotal

/-- A fee divided adds its accrual to one of holders 1 to 63, or nothing to holder 0. -/
theorem Accrued.accrue {l : List (Nat × Nat)} {total : Nat} (h : Accrued l total) {i : ItemRec}
    (hi : i.snapshot.holder ≤ 63) : Accrued (accrue l i) (total + i.snapshot.accrual) := by
  obtain ⟨hlength, hhouse, hpaid, htotal⟩ := h
  have hmap : (LedgerLaws.accrue l i).map (·.1) = (l.map (·.1)).modify i.snapshot.holder (· + i.snapshot.accrual) :=
    map_modify (g := fun h => (h.1 + i.snapshot.accrual, h.2)) (g' := (· + i.snapshot.accrual)) (fun _ => rfl) _ _
  have hpaid' : ∀ h ∈ LedgerLaws.accrue l i, h.2 ≤ h.1 := fun h hh => by
    obtain hh | ⟨p, hp, rfl⟩ := mem_modify hh
    · exact hpaid h hh
    · exact (hpaid p (List.mem_of_getElem? hp)).trans (Nat.le_add_right _ _)
  obtain ⟨hhouse', htotal'⟩ := accrued_modify_add (k := i.snapshot.holder) (m := i.snapshot.accrual)
    (by rw [List.length_map]; omega) (fun h => if_pos h) hhouse htotal
  exact ⟨by simpa [LedgerLaws.accrue] using hlength, hmap ▸ hhouse', hpaid', hmap ▸ htotal'⟩

/-- A payout within what the holder has accrued leaves the accrued as they are. -/
theorem Accrued.pay {l : List (Nat × Nat)} {total k amount : Nat} (h : Accrued l total)
    (hk : ∀ p, l[k]? = some p → p.2 + amount ≤ p.1) :
    Accrued (l.modify k fun p => (p.1, p.2 + amount)) total := by
  obtain ⟨hlength, hhouse, hpaid, htotal⟩ := h
  have haccrued : (l.modify k fun p => (p.1, p.2 + amount)).map (·.1) = l.map (·.1) := by
    rw [map_modify (f := Prod.fst) (g := fun p => (p.1, p.2 + amount)) (g' := id) fun _ => rfl, List.modify_id]
  refine ⟨by simpa using hlength, haccrued ▸ hhouse, fun h hh => ?_, haccrued ▸ htotal⟩
  obtain hh | ⟨p, hp, rfl⟩ := mem_modify hh
  · exact hpaid h hh
  · exact hk p hp

theorem Accrued.foldl {sold : List ItemRec} (hsold : ∀ i ∈ sold, i.snapshot.holder ≤ 63) {l : List (Nat × Nat)}
    {total : Nat} (h : Accrued l total) :
    Accrued (sold.foldl LedgerLaws.accrue l) (total + (sold.map (·.snapshot.accrual)).sum) := by
  induction sold generalizing l total with
  | nil => exact h
  | cons i sold ih =>
    rw [List.map_cons, List.sum_cons, ← Nat.add_assoc]
    exact ih (fun j hj => hsold j (.tail _ hj)) (h.accrue (hsold i (.head _)))

/-- The accruals of the books agree, and the photos and the open orders name holders of the table. -/
structure InStep (b : Books) : Prop where
  accrued : Accrued b.holders b.revenue.accruals
  photos : ∀ h ∈ b.photos, h ≤ 63
  orders : ∀ x ∈ b.orders, ∀ h ∈ x.holders, h ≤ 63

theorem accrualsAgree_iff (s : State) : AccrualsAgree s ↔ InStep (books s) := by
  have hhouse : s.holders.length = 64 →
      ((∀ h, s.holders.head? = some h → h.accrued = 0) ↔ (s.holders.map (·.accrued)).head? = some 0) := by
    cases s.holders <;> simp
  have hmap : (s.holders.map sums).map (·.1) = s.holders.map (·.accrued) := by simp [sums]
  constructor
  · rintro ⟨hlength, hphotos, horders, hfirst, hpaid, htotal⟩
    refine ⟨⟨by simpa [books] using hlength, ?_, ?_, ?_⟩, ?_, ?_⟩
    · simpa only [books, hmap] using (hhouse hlength).mp hfirst
    · simpa [books, sums] using hpaid
    · simpa only [books, hmap, List.map_drop] using htotal
    · simpa [books] using hphotos
    · simpa [books, terms] using horders
  · rintro ⟨⟨hlength, hfirst, hpaid, htotal⟩, hphotos, horders⟩
    have hlength : s.holders.length = 64 := by simpa [books] using hlength
    refine ⟨hlength, by simpa [books] using hphotos, by simpa [books, terms] using horders, ?_, ?_, ?_⟩
    · simpa only [books, hmap] using (hhouse hlength).mpr (by simpa only [books, hmap] using hfirst)
    · simpa [books, sums] using hpaid
    · simpa only [books, hmap, List.map_drop] using htotal

theorem Move.inStep {b c : Books} (h : Move b c) (hb : InStep b) : InStep c := by
  obtain ⟨haccrued, hphotos, horders⟩ := hb
  cases h with
  | settle hx hsold charge =>
    exact ⟨haccrued.foldl fun i hi => horders _ hx _ (hsold i hi), hphotos,
      fun x hx => horders x (List.mem_of_mem_filter hx)⟩
  | accept hnumber hroom haccount hholders =>
    refine ⟨haccrued, hphotos, fun x hx h hh => ?_⟩
    obtain hx | hx := List.mem_append.mp hx
    · exact horders x hx h hh
    · obtain rfl := List.mem_singleton.mp hx
      obtain rfl | hp := hholders h hh
      · exact Nat.zero_le _
      · exact hphotos h hp
  | openAccount => exact ⟨haccrued, hphotos, horders⟩
  | pay hamount => exact ⟨haccrued.pay hamount, hphotos, horders⟩
  | photos hl => exact ⟨haccrued, fun h hh => (hl h hh).elim id (hphotos h), horders⟩
  | discard => exact ⟨haccrued, hphotos, nofun⟩

/-- Settles O11: every move of the books keeps the accruals in step. -/
theorem accrualsStayInStep : Obligations.AccrualsStayInStep := fun s t hs h =>
  (accrualsAgree_iff t).mpr (kept_by_moves Move.inStep (moves_step h) ((accrualsAgree_iff s).mp hs))

/-! ### The reservations (R180) -/

/-- What the open orders of an account reserve. -/
def reservedFor (l : List Terms) (n : Nat) : Nat := ((l.filter fun x => decide (x.account = n)).map (·.reservation)).sum

/-- Order numbers differ and are at most 32, each open order's account exists, and each account's reserve is what its open
orders reserve. -/
structure Reserved (b : Books) : Prop where
  numbers : (b.orders.map (·.number)).Nodup
  room : b.orders.length ≤ 32
  accounts : ∀ x ∈ b.orders, x.account ∈ b.accounts.map (·.1)
  sums : ∀ a ∈ b.accounts, a.2 = reservedFor b.orders a.1

theorem reservedAgree_iff (s : State) : ReservedAgree s ↔ Reserved (books s) := by
  have hfor (n : Nat) : reservedFor (s.orders.map terms) n = openReservations s n := by
    simp only [reservedFor, openReservations, List.filter_map, List.map_map]
    rfl
  have hfind (n : Nat) : (findAccount s n).isSome = true ↔ n ∈ (s.accounts.map reserve).map (·.1) := by
    simp [findAccount, reserve]
  have hnumbers : (s.orders.map terms).map (·.number) = s.orders.map (·.number) := by simp [terms]
  constructor
  · rintro ⟨hnodup, hroom, haccounts, hsums⟩
    refine ⟨by simpa only [books, hnumbers] using hnodup, by simpa [books] using hroom, ?_, ?_⟩
    · simpa [books, terms, hfind] using haccounts
    · simpa [books, hfor, reserve] using hsums
  · rintro ⟨hnodup, hroom, haccounts, hsums⟩
    refine ⟨by simpa only [books, hnumbers] using hnodup, by simpa [books] using hroom, ?_, ?_⟩
    · simpa [books, terms, hfind] using haccounts
    · simpa [books, hfor, reserve] using hsums

theorem reservedFor_cons (x : Terms) (l : List Terms) (n : Nat) :
    reservedFor (x :: l) n = (if n = x.account then x.reservation else 0) + reservedFor l n := by
  by_cases h : n = x.account
  · simp [reservedFor, h]
  · simp [reservedFor, h, Ne.symm h]

/-- An order that leaves takes its reservation with it. -/
theorem reservedFor_filter {l : List Terms} (hl : (l.map (·.number)).Nodup) {x : Terms} (hx : x ∈ l) (n : Nat) :
    reservedFor l n
      = (if n = x.account then x.reservation else 0)
        + reservedFor (l.filter fun y => decide (y.number ≠ x.number)) n := by
  induction l with
  | nil => contradiction
  | cons y l ih =>
    obtain ⟨hy, hl⟩ := List.nodup_cons.mp hl
    have hne : ∀ z ∈ l, z.number ≠ y.number := fun z hz he => hy (List.mem_map.mpr ⟨z, hz, he⟩)
    obtain rfl | hx := List.mem_cons.mp hx
    · have hrest : l.filter (fun y => decide (y.number ≠ x.number)) = l := by simpa using hne
      rw [reservedFor_cons, List.filter_cons_of_neg (by simp), hrest]
    · rw [reservedFor_cons, List.filter_cons_of_pos (by simpa using (hne x hx).symm), reservedFor_cons, ih hl hx,
        Nat.add_left_comm]

theorem reservedFor_append (l : List Terms) (x : Terms) (n : Nat) :
    reservedFor (l ++ [x]) n = reservedFor l n + if n = x.account then x.reservation else 0 := by
  have hsplit : reservedFor (l ++ [x]) n = reservedFor l n + reservedFor [x] n := by simp [reservedFor]
  rw [hsplit, reservedFor_cons]
  rfl

/-- A change of the reserves of an account keeps the accounts' numbers. -/
theorem map_reserve_numbers (n : Nat) (g : Nat → Nat) (l : List (Nat × Nat)) :
    (l.map fun a => if a.1 = n then (a.1, g a.2) else a).map (·.1) = l.map (·.1) :=
  map_map_eq (fun a => by split <;> rfl) l

/-- With no order of the account in the book nothing is reserved. -/
theorem reservedFor_none {l : List Terms} {n : Nat} (h : ∀ x ∈ l, x.account ≠ n) : reservedFor l n = 0 := by
  have : l.filter (fun x => decide (x.account = n)) = [] := by simpa using h
  simp [reservedFor, this]

theorem Move.reserved {b c : Books} (h : Move b c) (hb : Reserved b) : Reserved c := by
  obtain ⟨hnumbers, hroom, haccounts, hsums⟩ := hb
  cases h with
  | @settle x _ hx hsold charge =>
    refine ⟨hnumbers.sublist (List.filter_sublist.map _), (List.length_filter_le _ _).trans hroom, fun y hy => ?_,
      fun a ha => ?_⟩
    · rw [map_reserve_numbers x.account (· - x.reservation)]
      exact haccounts y (List.mem_of_mem_filter hy)
    · obtain ⟨a, hin, rfl⟩ := List.mem_map.mp ha
      have hsum := (hsums a hin).trans (reservedFor_filter hnumbers hx a.1)
      by_cases hn : a.1 = x.account
      · simp only [hn, if_true] at hsum ⊢
        omega
      · simpa [hn] using hsum
  | @accept x hnumber hfree haccount hholders =>
    refine ⟨?_, by simpa using hfree, fun y hy => ?_, fun a ha => ?_⟩
    · rw [List.map_append]
      exact List.nodup_append.mpr ⟨hnumbers, List.nodup_singleton _, by simp_all⟩
    · rw [map_reserve_numbers x.account (· + x.reservation)]
      obtain hy | hy := List.mem_append.mp hy
      · exact haccounts y hy
      · exact List.mem_singleton.mp hy ▸ haccount
    · obtain ⟨a, hin, rfl⟩ := List.mem_map.mp ha
      have hsum := hsums a hin
      by_cases hn : a.1 = x.account <;> simp [hn, reservedFor_append, hsum]
  | @openAccount n hn =>
    refine ⟨hnumbers, hroom, fun x hx => ?_, fun a ha => ?_⟩
    · rw [List.map_append]
      exact List.mem_append_left _ (haccounts x hx)
    · obtain ha | ha := List.mem_append.mp ha
      · exact hsums a ha
      · obtain rfl := List.mem_singleton.mp ha
        exact (reservedFor_none fun x hx he => hn ((congrArg (· ∈ _) he).mp (haccounts x hx))).symm
  | pay hamount => exact ⟨hnumbers, hroom, haccounts, hsums⟩
  | photos hl => exact ⟨hnumbers, hroom, haccounts, hsums⟩
  | discard => exact ⟨.nil, Nat.zero_le _, nofun, fun a ha => by obtain ⟨b, -, rfl⟩ := List.mem_map.mp ha; rfl⟩

/-- Settles O12: every move of the books keeps each account's reserve the sum of its open orders' reservations. -/
theorem reservedIsTheOpenReservations : Obligations.ReservedIsTheOpenReservations := fun s t hs h =>
  (reservedAgree_iff t).mpr (kept_by_moves Move.reserved (moves_step h) ((reservedAgree_iff s).mp hs))

end Sys2Proof.Machine.LedgerLaws
end
